-- ==== Sys2Proof/Word.lean ====
section
/-! DEFINITION. The words of the AQ340 and the two containers its blocks use: one value per host, and a table
of numbered records. -/

namespace Sys2Proof

/-- A byte of a frame, an argument or a payload (Chapter 12). -/
abbrev Byte := BitVec 8

/-- A value of the 32-bit microsecond Time Base, which wraps (R75). -/
abbrev Time := BitVec 32

/-- The three hosts (Table 0-3). -/
inductive HostId where
  | h0 | h1 | h2
deriving DecidableEq, Repr

/-- Every host, in the order H0, H1, H2. -/
def HostId.all : List HostId := [.h0, .h1, .h2]

/-- One value for each host. -/
structure PerHost (α : Type) where
  h0 : α
  h1 : α
  h2 : α
deriving DecidableEq, Repr

/-- The value of one host. -/
def PerHost.get {α : Type} (p : PerHost α) : HostId → α
  | .h0 => p.h0
  | .h1 => p.h1
  | .h2 => p.h2

/-- The same values with one host's replaced. -/
def PerHost.put {α : Type} (p : PerHost α) (h : HostId) (x : α) : PerHost α :=
  match h with
  | .h0 => { p with h0 := x }
  | .h1 => { p with h1 := x }
  | .h2 => { p with h2 := x }

/-- The same value for every host. -/
def PerHost.same {α : Type} (x : α) : PerHost α := ⟨x, x, x⟩

/-- A table of `n` numbered records. -/
abbrev Table (α : Type) (n : Nat) := Vector α n

/-- Record `i` of a table. -/
def Table.at {α : Type} {n : Nat} (t : Table α n) (i : Fin n) : α := t[i.val]

/-- The table with record `i` replaced. -/
def Table.put {α : Type} {n : Nat} (t : Table α n) (i : Fin n) (x : α) : Table α n := t.set i.val x i.isLt

/-- A job id, 0 to 23 (Table 0-2). -/
abbrev JobId := Fin 24

/-- A sequence index, 0 to 31 (Table 0-2). -/
abbrev SeqId := Fin 32

/-- A frame id, 0 to 47 (Table 0-2). -/
abbrev FrameId := Fin 48

/-- A channel group, G0 to G3 (Table 0-2). -/
abbrev GroupId := Fin 4

/-- A window index of one host, 0 to 3 (Table 0-2). -/
abbrev WindowId := Fin 4

/-- An XT line, XT0 to XT3. -/
abbrev XtLine := Fin 4

/-- An analog input, AIN0 to AIN15. -/
abbrev Channel := Fin 16

end Sys2Proof
end

