-- ==== Sys2Proof/Config.lean ====
section
/-! DEFINITION. What the specification leaves open: constants with no body, so that nothing can be proved of
their values. The first argument is the number of the draw, a plain counter of the state (log 13). -/

namespace Sys2Proof.Config

/-- The code the converter produces for a step (R111), when the part takes the completion itself. -/
opaque converterCode (draw : Nat) : BitVec 12

/-- Whether the reference measurements of a calibration fall within their limits (R119), when the part takes the
completion itself. -/
opaque calibrationPasses (draw : Nat) : Bool

/-- Which of the arrivals that may be taken now is taken, where the specification gives no order (log 1). -/
opaque arrivalChoice (draw : Nat) : Nat

/-- The place of an item in an order that the specification does not give (log 12). -/
opaque orderRank (draw item : Nat) : Nat

/-- The content of a payload field at a moment when the field is not meaningful (log 14). -/
opaque openField (draw field : Nat) : BitVec 32

/-- Whether the free decision that a presentation's queue entry causes is taken after the next presentation of the same
edge (R81, log 30). -/
opaque decisionWaits (draw : Nat) : Bool

/-- Whether the start-up calibration's CAL_DONE is addressed to a host that was torn down during it, on which R120 and
R168 disagree (log 15). -/
opaque startupReportsTornDown : Bool

end Sys2Proof.Config
end

