-- ==== Sys2Proof/Syntax.lean ====
section
/-! DEFINITION. The commands of the AQ340: one constructor for each row of spec/opcode_table.json. The table gives
the rows no bits; each constructor carries what the arrival brings with it. -/

namespace Sys2Proof

/-- A trigger line: the TRIG input of a host port, or a shared XT input (R78). -/
inductive Line where
  | trig (h : HostId)
  | xt (n : XtLine)
deriving DecidableEq, Repr

/-- Where a waiting presentation comes from: an edge of a line (R79, R80) or a window event (R85). -/
inductive Origin where
  | line (l : Line)
  | window
deriving DecidableEq, Repr

/-- The result of a calibration (R119). -/
inductive CalResult where
  | pass | fail
deriving DecidableEq, Repr

/-- A level, high or not, for each of the seven trigger lines (R78). -/
structure LineLevels where
  trig : PerHost Bool
  xt : Table Bool 4
deriving DecidableEq, Repr

/-- The rows of spec/opcode_table.json. A host command carries the calling host (R179) and the argument bytes of
its frame (Table 12-4), whose number the owning block checks (R180). -/
inductive Instr where
  /-- RESET_N falls (R22). -/
  | resetNAssert
  /-- RESET_N rises with these ALLOC straps, trigger line levels and CS_N lines low (R57, R78, R124, R177). -/
  | resetNRelease (alloc : BitVec 2) (levels : LineLevels) (csLow : PerHost Bool)
  /-- CS_N of a port falls (R170). -/
  | transactionBegin (h : HostId)
  /-- CS_N of a port rises after these levels of SDI were sampled, one at each rising edge of SCK (R170, R171). -/
  | transactionEnd (h : HostId) (sdi : List Bool)
  /-- The prepared response of a port is placed in its slot (R173). -/
  | responseReady (h : HostId)
  | nop (h : HostId) (args : List Byte)
  | status (h : HostId) (args : List Byte)
  | defineSeq (h : HostId) (args : List Byte)
  | deleteSeq (h : HostId) (args : List Byte)
  | readSeq (h : HostId) (args : List Byte)
  | createJob (h : HostId) (args : List Byte)
  | armJob (h : HostId) (args : List Byte)
  | disarmJob (h : HostId) (args : List Byte)
  | startJob (h : HostId) (args : List Byte)
  | abortJob (h : HostId) (args : List Byte)
  | deleteJob (h : HostId) (args : List Byte)
  | jobStatus (h : HostId) (args : List Byte)
  | fetchFrame (h : HostId) (args : List Byte)
  | flushFrames (h : HostId) (args : List Byte)
  | setWindow (h : HostId) (args : List Byte)
  | clearWindow (h : HostId) (args : List Byte)
  | acquireHold (h : HostId) (args : List Byte)
  | renewHold (h : HostId) (args : List Byte)
  | releaseHold (h : HostId) (args : List Byte)
  | claimExc (h : HostId) (args : List Byte)
  | requestCal (h : HostId) (args : List Byte)
  | setCalInterval (h : HostId) (args : List Byte)
  | readEvents (h : HostId) (args : List Byte)
  | hostReset (h : HostId) (args : List Byte)
  /-- A TRIG line that its detector has seen low is seen high (R78, R79). -/
  | trigEdge (h : HostId)
  /-- An XT line that its detector has seen low is seen high (R78, R80). -/
  | xtEdge (n : XtLine)
  /-- The period timer of a job reaches its expiry (R83). -/
  | periodExpiry (j : JobId)
  /-- The oldest waiting presentation of an origin is presented to its job (R86). -/
  | triggerPresented (o : Origin)
  /-- The step in progress completes with this code (R111). -/
  | stepComplete (code : BitVec 12)
  /-- The calibration in progress completes (R119). -/
  | calibrationComplete (result : CalResult)
  /-- The settle timer reaches its expiry (R132). -/
  | settleExpiry
  /-- The deadline timer of a job reaches its expiry (R46). -/
  | deadlineExpiry (j : JobId)
  /-- The lease of a held group reaches its expiry (R142). -/
  | leaseExpiry (g : GroupId)
  /-- A line that its detector has seen high is seen low (R78). -/
  | triggerLineFallingEdge (l : Line)
deriving DecidableEq, Repr

end Sys2Proof
end

