-- ==== Sys2Proof/Machine/State.lean ====
section
/-! DEFINITION. The state of the AQ340 as plain data, block by block (Table 0-1), and the state in which RESET_N
holds it. -/

namespace Sys2Proof.Machine

/-! ### Sequence Store (Chapter 5) -/

/-- Excitation levels, lowest first (Section 6 of the scope). -/
inductive Level where
  | off | low | mid | high
deriving DecidableEq, Repr

/-- Gains (Table 0-2). -/
inductive Gain where
  | x1 | x2 | x4 | x8
deriving DecidableEq, Repr

/-- The scope of a sequence (R97). -/
inductive Scope where
  | priv | shared
deriving DecidableEq, Repr

/-- One step (Table 5-2). -/
structure SeqStep where
  channel : Channel
  gain : Gain
  settle : Fin 8
  window : Option WindowId
deriving DecidableEq, Repr

/-- One sequence record (Table 5-1). Its step count is the length of its step list; owner `none` is NONE. -/
structure Seq where
  defined : Bool
  owner : Option HostId
  scope : Scope
  minimum : Level
  steps : List SeqStep
  refCount : Nat
deriving DecidableEq, Repr

/-- A FREE sequence record: no definition and no step entries (R93). Its other fields have no meaning. -/
def Seq.free : Seq := ⟨false, none, .priv, .off, [], 0⟩

/-! ### Job Controller, with the timers other blocks keep for a job (Chapters 1, 2, 4) -/

inductive JobState where
  | free | idle | armed | pending | settling | running | preempted | stopping | done
deriving DecidableEq, Repr

inductive JobClass where
  | routine | urgent
deriving DecidableEq, Repr

inductive TriggerSource where
  | command | hostLine | xt (n : XtLine) | period | window
deriving DecidableEq, Repr

inductive BusyPolicy where
  | latch | drop
deriving DecidableEq, Repr

inductive RepeatMode where
  | oneShot | count (n : Nat) | continuous
deriving DecidableEq, Repr

inductive ResumePolicy where
  | resume | restart
deriving DecidableEq, Repr

inductive LatePolicy where
  | keep | drop
deriving DecidableEq, Repr

inductive OverflowPolicy where
  | refuse | reclaim
deriving DecidableEq, Repr

inductive StopReason where
  | abort | late | teardown
deriving DecidableEq, Repr

/-- The edge mark of a trigger: the XT line and the timestamp of the edge (R77). -/
structure EdgeMark where
  line : XtLine
  stamp : Time
deriving DecidableEq, Repr

/-- The queue stamp (R26). -/
structure QueueStamp where
  time : Time
  mark : Option EdgeMark
deriving DecidableEq, Repr

/-- One job record (Table 1-1), then the period timer the Trigger Unit keeps for it (R83) and the deadline timer and
blocked indication the Dispatcher keeps (R44, R29). -/
structure Job where
  state : JobState
  owner : HostId
  seq : SeqId
  cls : JobClass
  priority : Fin 4
  source : TriggerSource
  period : Option Nat
  busy : BusyPolicy
  repeatMode : RepeatMode
  resume : ResumePolicy
  deadline : Option Nat
  late : LatePolicy
  overflow : OverflowPolicy
  runsRemaining : Nat
  latch : Option Time
  missed : Nat
  runNumber : BitVec 16
  triggerTime : Time
  stamp : QueueStamp
  nextStep : Nat
  fillFrame : Option FrameId
  preemptCount : Nat
  deadlineMissed : Bool
  disarmPending : Bool
  stopReason : Option StopReason
  periodTimer : Option Time
  deadlineTimer : Option Time
  blocked : Bool
deriving DecidableEq, Repr

/-- A FREE job record; its fields other than the state are without meaning (R1, log 5). -/
def Job.free : Job where
  state := .free
  owner := .h0
  seq := 0
  cls := .routine
  priority := 0
  source := .command
  period := none
  busy := .latch
  repeatMode := .oneShot
  resume := .resume
  deadline := none
  late := .keep
  overflow := .refuse
  runsRemaining := 0
  latch := none
  missed := 0
  runNumber := 0
  triggerTime := 0
  stamp := ⟨0, none⟩
  nextStep := 0
  fillFrame := none
  preemptCount := 0
  deadlineMissed := false
  disarmPending := false
  stopReason := none
  periodTimer := none
  deadlineTimer := none
  blocked := false

/-! ### Trigger Unit (Chapter 4) -/

/-- A presentation that has been fixed for a job and not yet taken (R77, R80, R85). -/
structure Presentation where
  origin : Origin
  job : JobId
  source : TriggerSource
  stamp : Time
  mark : Option EdgeMark
deriving DecidableEq, Repr

/-! ### Result Store (Chapter 3) -/

inductive FrameState where
  | free | filling | complete
deriving DecidableEq, Repr

/-- Sample zones (Table 3-2). -/
inductive Zone where
  | none | inside | below | above
deriving DecidableEq, Repr

/-- One sample slot (Table 3-2). -/
structure Sample where
  valid : Bool
  step : Nat
  channel : Channel
  gain : Gain
  code : BitVec 12
  stale : Bool
  zone : Zone
deriving DecidableEq, Repr

/-- A slot whose valid mark is clear; its other fields have no meaning (R55, log 5). -/
def Sample.empty : Sample := ⟨false, 0, 0, .x1, 0, false, .none⟩

/-- One frame record (Tables 3-1, 3-2). -/
structure Frame where
  state : FrameState
  owner : HostId
  job : JobId
  run : BitVec 16
  triggerTime : Time
  deadlineMissed : Bool
  stalePresent : Bool
  restarted : Bool
  preemptCount : Nat
  missedCount : Nat
  sampleCount : Nat
  samples : Table Sample 16
deriving DecidableEq, Repr

/-- A FREE frame; its header and samples have no meaning (R53, log 5). -/
def Frame.free : Frame :=
  ⟨.free, .h0, 0, 0, 0, false, false, false, 0, 0, 0, Vector.replicate 16 Sample.empty⟩

/-! ### Conversion Engine (Chapter 6) -/

inductive ConverterState where
  | idle | settling | converting | calibrating | fault
deriving DecidableEq, Repr

inductive CalCause where
  | startup | requested | due | overdue
deriving DecidableEq, Repr

/-- The step in progress (Table 6-1). -/
structure StepInProgress where
  job : JobId
  index : Nat
  channel : Channel
  gain : Gain
  settle : Fin 8
  start : Time
deriving DecidableEq, Repr

/-- The Conversion Engine's items (Table 6-1); the start time of the calibration in progress, which its 150 µs imply
(R119); and the hosts torn down during the start-up calibration in progress (R168, log 15). -/
structure Engine where
  state : ConverterState
  step : Option StepInProgress
  settlingJob : Option JobId
  counter : Nat
  stale : Bool
  failures : Nat
  requests : PerHost (Option Nat)
  effective : Nat
  requesters : PerHost Bool
  served : PerHost Bool
  cause : CalCause
  startCount : Nat
  calStart : Time
  tornDown : PerHost Bool
deriving DecidableEq, Repr

/-! ### Excitation Controller (Chapter 7) -/

/-- The Excitation Controller's items (Table 7-1). The transient claims are a set with at most one entry a job
(R126), held as one optional level for each job. -/
structure Excitation where
  standing : PerHost Level
  transient : Table (Option Level) 24
  output : Level
  settled : Level
  target : Option Level
  expiry : Time
deriving DecidableEq, Repr

/-! ### Hold Manager (Chapter 8) -/

inductive GroupState where
  | free | pending | held
deriving DecidableEq, Repr

/-- One group record (Table 8-1). The occupant set is held as one mark for each job. -/
structure Group where
  state : GroupState
  host : HostId
  lease : Nat
  expiry : Time
  occupants : Table Bool 24
deriving DecidableEq, Repr

/-! ### Window Unit (Chapter 9) -/

inductive WindowAction where
  | notify | startJob (j : JobId)
deriving DecidableEq, Repr

/-- Last zones (Table 9-1). -/
inductive LastZone where
  | unknown | inside | below | above
deriving DecidableEq, Repr

/-- One window record (Table 9-1). -/
structure Window where
  enabled : Bool
  low : BitVec 12
  high : BitVec 12
  action : WindowAction
  lastZone : LastZone
deriving DecidableEq, Repr

/-- A disabled window: last zone UNKNOWN, action NOTIFY; its limits have no meaning (R151, log 5). -/
def Window.disabled : Window := ⟨false, 0, 0, .notify, .unknown⟩

/-! ### Event Unit (Chapter 10) -/

/-- The kind of an event record with its detail (Table 10-2). -/
inductive EventBody where
  | deviceReset (host : HostId) (alloc : BitVec 2) (allowance : Nat)
  | runComplete (run : BitVec 16)
  | jobDone (run : BitVec 16) (missed : Nat)
  | frameOverrun (run : BitVec 16) (policy : OverflowPolicy)
  | frameReclaimed (lostRun : BitVec 16) (newJob : JobId) (newRun : BitVec 16)
  | triggerMissed (run : BitVec 16) (source : TriggerSource) (stamp : Time) (policy : BusyPolicy)
  | deadlineMissed (run : BitVec 16) (policy : LatePolicy) (state : JobState)
  | jobAborted (run : BitVec 16) (missed : Nat)
  | limit (window : WindowId) (step : Nat) (channel : Channel) (code : BitVec 12) (zone : Zone)
      (previous : LastZone) (run : BitVec 16)
  | holdGranted (group : GroupId) (lease : Nat) (expiry : Time)
  | holdExpired (group : GroupId) (lease : Nat)
  | holdIntruded (group : GroupId) (intruder : HostId) (run : BitVec 16)
  | calDone (cause : CalCause) (startCount failuresBefore : Nat)
  | calFailed (cause : CalCause) (startCount failuresAfter : Nat)
  | converterFault
  | converterRecovered
deriving DecidableEq, Repr

/-- An event record: kind and detail, timestamp, job id, frame id (R161). -/
structure Event where
  stamp : Time
  job : Option JobId
  frame : Option FrameId
  body : EventBody
deriving DecidableEq, Repr

/-- The Event Unit's items for one host (Table 10-1); `attention` is ATTN_N asserted. -/
structure EventQueue where
  queue : List Event
  loss : Nat
  attention : Bool
deriving DecidableEq, Repr

/-! ### Host Port Units (Chapter 11) -/

/-- Status codes (Table 11-3). -/
inductive Status where
  | ok | pending | empty
  | badFrame | badLength | unknownCommand
  | badArgument | notOwner | noSpace | inUse | wrongState | heldByOther
  | notReady | startup
deriving DecidableEq, Repr

/-- A response record (Table 11-1). -/
structure Response where
  status : Status
  tag : Byte
  payload : List Byte
deriving DecidableEq, Repr

inductive TransactionState where
  | idle | shifting | lockedOut
deriving DecidableEq, Repr

inductive OutgoingKind where
  | slot | notReady
deriving DecidableEq, Repr

inductive Readiness where
  | ready | waiting
deriving DecidableEq, Repr

/-- One Host Port Unit (Table 11-1). `image` is the 64-byte outgoing image, `inBits` the bits of the byte that is being
received and `outBit` the number of falling edges of SCK since CS_N fell (R170). `inHand` is the command that was
passed on and not yet taken, `prepared` the response that waits to be placed, and `endedAt` the end of the
transaction that began the wait (R173); the specification implies these. -/
structure Port where
  transaction : TransactionState
  outgoing : OutgoingKind
  image : List Byte
  byteCount : Nat
  received : List Byte
  inBits : List Bool
  outBit : Nat
  slot : Option Response
  readiness : Readiness
  tagInHand : Byte
  inHand : Option Instr
  prepared : Option Response
  endedAt : Time
deriving DecidableEq, Repr

/-! ### The whole part -/

/-- The machine stops with no fault: the specification answers every command with a status and every arrival with a
state, the converter's FAULT included (R121, R178). Nothing raises a fault, so the type has no case (safe). -/
inductive Fault
deriving DecidableEq, Repr

/-- Why a command has no outcome. -/
inductive Refusal where
  /-- Raised by `exec` alone, for a row that has no meaning yet (safe). No row is left so. -/
  | notModelled (mnemonic : String)
deriving DecidableEq, Repr

/-- The state of the AQ340. `pending` and `draws` are the model's own: the arrivals that wait to be taken, first in
first out (log 1), and the number of free values used so far (log 13). `decisionDue` says that an entry of an edge has
caused a free decision that is still to be taken (R81, log 30). -/
structure State where
  pending : List Instr
  draws : Nat
  inReset : Bool
  timeBase : Time
  alloc : BitVec 2
  ports : PerHost Port
  seqs : Table Seq 32
  freeSteps : Nat
  jobs : Table Job 24
  levels : LineLevels
  waiting : List Presentation
  queue : List JobId
  decisionDue : Bool
  engine : Engine
  exc : Excitation
  frames : Table Frame 48
  pool : List FrameId
  allowance : PerHost Nat
  inUse : PerHost Nat
  delivery : PerHost (List FrameId)
  groups : Table Group 4
  windows : PerHost (Table Window 4)
  events : PerHost EventQueue
deriving DecidableEq, Repr

/-- A port while RESET_N is asserted: it ignores its lines and its slot is lost (R177, log 5). -/
def Port.reset : Port := ⟨.idle, .notReady, [], 0, [], [], 0, none, .waiting, 0, none, none, 0⟩

/-- The Conversion Engine while RESET_N is asserted: nothing in hand (R108); the items R124 gives at release have
those values already (log 5). -/
def Engine.reset : Engine where
  state := .idle
  step := none
  settlingJob := none
  counter := 0
  stale := true
  failures := 0
  requests := PerHost.same none
  effective := 4096
  requesters := PerHost.same false
  served := PerHost.same false
  cause := .startup
  startCount := 0
  calStart := 0
  tornDown := PerHost.same false

/-- The Excitation Controller while RESET_N is asserted: EXC at OFF, no claim, no settling (R137). -/
def Excitation.reset : Excitation :=
  ⟨PerHost.same .off, Vector.replicate 24 none, .off, .off, none, 0⟩

/-- A group record in reset: FREE, no occupant (R150). -/
def Group.reset : Group := ⟨.free, .h0, 0, 0, Vector.replicate 24 false⟩

/-- An event queue in reset: empty, loss counter 0, ATTN_N deasserted (R169). -/
def EventQueue.reset : EventQueue := ⟨[], 0, false⟩

/-- All 48 frames in ascending order (R56, R73). -/
def allFrames : List FrameId :=
  [0, 1, 2, 3, 4, 5, 6, 7, 8, 9, 10, 11, 12, 13, 14, 15, 16, 17, 18, 19, 20, 21, 22, 23,
   24, 25, 26, 27, 28, 29, 30, 31, 32, 33, 34, 35, 36, 37, 38, 39, 40, 41, 42, 43, 44, 45, 46, 47]

/-- The part while RESET_N is asserted: every block in its initial state (R22, R52, R73, R92, R107, R108, R137, R150,
R159, R169, R177). Only the release of RESET_N brings it to work (log 4); the values that no rule gives are in
log 5. -/
def State.reset : State where
  pending := []
  draws := 0
  inReset := true
  timeBase := 0
  alloc := 0
  ports := PerHost.same Port.reset
  seqs := Vector.replicate 32 Seq.free
  freeSteps := 256
  jobs := Vector.replicate 24 Job.free
  levels := ⟨PerHost.same false, Vector.replicate 4 false⟩
  waiting := []
  queue := []
  decisionDue := false
  engine := Engine.reset
  exc := Excitation.reset
  frames := Vector.replicate 48 Frame.free
  pool := allFrames
  allowance := PerHost.same 16
  inUse := PerHost.same 0
  delivery := PerHost.same []
  groups := Vector.replicate 4 Group.reset
  windows := PerHost.same (Vector.replicate 4 Window.disabled)
  events := PerHost.same EventQueue.reset

end Sys2Proof.Machine
end

