-- ==== Sys2Proof/Machine/Ops.lean ====
section
/-! DEFINITION. The named operations over the blocks' records: the one place where each piece of state is read and
changed. -/

namespace Sys2Proof.Machine

/-- Every job id in ascending order. -/
def allJobs : List JobId :=
  [0, 1, 2, 3, 4, 5, 6, 7, 8, 9, 10, 11, 12, 13, 14, 15, 16, 17, 18, 19, 20, 21, 22, 23]

/-- Every sequence index in ascending order. -/
def allSeqs : List SeqId :=
  [0, 1, 2, 3, 4, 5, 6, 7, 8, 9, 10, 11, 12, 13, 14, 15, 16, 17, 18, 19, 20, 21, 22, 23, 24, 25, 26, 27, 28, 29, 30, 31]

/-- Every channel group in ascending order. -/
def allGroups : List GroupId := [0, 1, 2, 3]

/-- A counter that holds at its largest value. -/
def saturate (limit n : Nat) : Nat := min limit (n + 1)

/-! ### Timers (R76) -/

/-- The age of a moment: the Time Base minus it, modulo 2^32 (R26). -/
def age (now t : Time) : Nat := (now - t).toNat

/-- A moment has been reached. Every interval is far below 2^31 µs (R76), so a moment less than that far back is past
and any other is still to come (log 3). -/
def reached (now t : Time) : Bool := age now t < 2 ^ 31

/-- The moment an interval after another, modulo 2^32 (R76). -/
def after (t : Time) (interval : Nat) : Time := t + BitVec.ofNat 32 interval

/-! ### Orders the specification does not give (log 12) -/

/-- Insertion by a rank, before the first item of a higher rank. -/
def insertRanked {α : Type} (rank : α → Nat) (x : α) : List α → List α
  | [] => [x]
  | y :: ys => if rank x < rank y then x :: y :: ys else y :: insertRanked rank x ys

/-- A list in the order of a rank. -/
def sortRanked {α : Type} (rank : α → Nat) : List α → List α
  | [] => []
  | x :: xs => insertRanked rank x (sortRanked rank xs)

/-- A list in an order that no rule gives: a free value of the state's next draw decides. -/
def State.openOrder {α : Type} (s : State) (item : α → Nat) (l : List α) : List α :=
  sortRanked (fun x => Config.orderRank s.draws (item x)) l

/-- One more free value has been used. -/
def State.drawn (s : State) : State := { s with draws := s.draws + 1 }

/-- A draw is counted when an order of several items was open. -/
def State.drawnFor {α : Type} (s : State) (l : List α) : State := if l.length < 2 then s else s.drawn

/-! ### Records -/

def State.job (s : State) (j : JobId) : Job := s.jobs.at j

def State.setJob (s : State) (j : JobId) (r : Job) : State := { s with jobs := s.jobs.put j r }

/-- The sequence a job names. -/
def State.seqOf (s : State) (j : JobId) : Seq := s.seqs.at (s.job j).seq

def State.setSeq (s : State) (k : SeqId) (r : Seq) : State := { s with seqs := s.seqs.put k r }

def State.setFrame (s : State) (f : FrameId) (r : Frame) : State := { s with frames := s.frames.put f r }

def State.setGroup (s : State) (g : GroupId) (r : Group) : State := { s with groups := s.groups.put g r }

def State.window (s : State) (h : HostId) (w : WindowId) : Window := (s.windows.get h).at w

def State.setWindow (s : State) (h : HostId) (w : WindowId) (r : Window) : State :=
  { s with windows := s.windows.put h ((s.windows.get h).put w r) }

def State.port (s : State) (h : HostId) : Port := s.ports.get h

def State.setPort (s : State) (h : HostId) (p : Port) : State := { s with ports := s.ports.put h p }

/-! ### Event Unit (Chapter 10) -/

/-- A record is appended while the queue holds fewer than 16 and dropped and counted otherwise, and either asserts
ATTN_N (R160, R163, R166). -/
def EventQueue.push (q : EventQueue) (e : Event) : EventQueue :=
  if q.queue.length < 16 then { q with queue := q.queue ++ [e], attention := true }
  else { q with loss := saturate 255 q.loss, attention := true }

/-- A record handed to the Event Unit for a host, stamped with the Time Base (R161). -/
def State.emit (s : State) (h : HostId) (job : Option JobId) (frame : Option FrameId) (body : EventBody) : State :=
  { s with events := s.events.put h ((s.events.get h).push ⟨s.timeBase, job, frame, body⟩) }

/-- A record addressed to all hosts is three records (R160). -/
def State.emitAll (s : State) (body : EventBody) : State :=
  ((s.emit .h0 none none body).emit .h1 none none body).emit .h2 none none body

/-! ### Excitation Controller (Chapter 7) -/

/-- The order OFF, LOW, MID, HIGH. -/
def Level.rank : Level → Nat
  | .off => 0
  | .low => 1
  | .mid => 2
  | .high => 3

def Level.max (a b : Level) : Level := if a.rank < b.rank then b else a

def Level.min (a b : Level) : Level := if a.rank < b.rank then a else b

/-- Settle times in µs (Table 7-2). Nothing settles toward OFF. -/
def Level.settleTime : Level → Nat
  | .off => 0
  | .low => 40
  | .mid => 80
  | .high => 160

/-- The voltage that EXC drives at a level, in millivolts (Table 12-11). OFF is the level of reset, which is 0 V (R137,
R189, log 19). -/
def Level.millivolts : Level → Nat
  | .off => 0
  | .low => 1000
  | .mid => 2500
  | .high => 5000

/-- The voltage driven on EXC, in millivolts: 0 in reset, and that of the output level after release (R189). -/
def State.excMillivolts (s : State) : Nat := if s.inReset then 0 else s.exc.output.millivolts

/-- The highest level among the transient claims standing, or OFF (R135). -/
def Excitation.highestTransient (e : Excitation) : Level :=
  e.transient.toList.foldl (fun m c => m.max (c.getD .off)) .off

/-- The highest of all claims (R129). -/
def Excitation.claimed (e : Excitation) : Level :=
  ((e.standing.h0.max e.standing.h1).max e.standing.h2).max e.highestTransient

/-- The output level falls (R133). What the settle expiry holds with no target is a DESIGN CHOICE (log 31). -/
def Excitation.dropTo (e : Excitation) (now : Time) (out : Level) : Excitation :=
  match e.target with
  | none => { e with output := out, settled := e.settled.min out }
  | some _ =>
    if out.rank ≤ e.settled.rank then { e with output := out, settled := out, target := none }
    else { e with output := out, target := some out, expiry := after now out.settleTime }

/-- The output level rises: settling begins, or begins afresh, toward it (R130, R131). -/
def Excitation.raiseTo (e : Excitation) (now : Time) (out : Level) : Excitation :=
  { e with output := out, target := some out, expiry := after now out.settleTime }

/-- The output level is recomputed after a claim was placed, changed or removed (R129). -/
def Excitation.recompute (e : Excitation) (now : Time) : Excitation :=
  if e.output.rank < e.claimed.rank then e.raiseTo now e.claimed
  else if e.claimed.rank < e.output.rank then e.dropTo now e.claimed
  else e

/-- A host's standing claim is set (R127). -/
def State.setStanding (s : State) (h : HostId) (l : Level) : State :=
  { s with exc := Excitation.recompute { s.exc with standing := s.exc.standing.put h l } s.timeBase }

/-- A job's transient claim is placed or removed (R128). -/
def State.setTransient (s : State) (j : JobId) (c : Option Level) : State :=
  { s with exc := Excitation.recompute { s.exc with transient := s.exc.transient.put j c } s.timeBase }

/-- A transient claim at the minimum of the job's sequence (R126). -/
def State.placeClaim (s : State) (j : JobId) : State := s.setTransient j (some (s.seqOf j).minimum)

def State.removeClaim (s : State) (j : JobId) : State := s.setTransient j none

/-! ### Hold Manager (Chapter 8) -/

/-- The group of a channel (R95). -/
def groupOf (c : Channel) : GroupId := ⟨c.val / 4, by omega⟩

/-- A sequence touches a group when a step names a channel of it (R95). -/
def Seq.touches (q : Seq) (g : GroupId) : Bool := q.steps.any fun st => groupOf st.channel == g

/-- The groups a job's sequence touches, ascending. -/
def State.groupsOf (s : State) (j : JobId) : List GroupId := allGroups.filter (s.seqOf j).touches

/-- The number of foreign occupants of a group for a host: occupants whose jobs other hosts own (R139). -/
def State.foreignOccupants (s : State) (g : GroupId) (h : HostId) : Nat :=
  (allJobs.filter fun j => (s.groups.at g).occupants.at j && decide ((s.job j).owner ≠ h)).length

/-- One mark of an occupant set. -/
def State.markOccupant (s : State) (j : JobId) (present : Bool) (g : GroupId) : State :=
  s.setGroup g { s.groups.at g with occupants := (s.groups.at g).occupants.put j present }

/-- The job enters the occupant sets of the groups it touches; URGENT jobs enter none (R139). -/
def State.occupy (s : State) (j : JobId) : State :=
  match (s.job j).cls with
  | .urgent => s
  | .routine => (s.groupsOf j).foldl (fun t g => t.markOccupant j true g) s

/-- A group record becomes HELD with a running lease, 1,000 µs for each ms (R140, R141, R142). -/
def State.holdNow (s : State) (g : GroupId) (h : HostId) (lease : Nat) : State :=
  s.setGroup g { s.groups.at g with state := .held, host := h, lease := lease, expiry := after s.timeBase (1000 * lease) }

/-- A PENDING hold is granted (R141). -/
def State.grant (s : State) (g : GroupId) : State :=
  let r := s.groups.at g
  (s.holdNow g r.host r.lease).emit r.host none none (.holdGranted g r.lease (after s.timeBase (1000 * r.lease)))

/-- A group PENDING with no foreign occupant left (R141). -/
def State.grantable (s : State) (g : GroupId) : Bool :=
  (s.groups.at g).state == .pending && s.foreignOccupants g (s.groups.at g).host == 0

/-- The job leaves the occupant sets it stands in, and the holds that waited for it alone are granted. The order of
several grants is open (R139, R141, log 12). -/
def State.vacate (s : State) (j : JobId) : State :=
  match (s.job j).cls with
  | .urgent => s
  | .routine =>
    let left := (s.groupsOf j).filter fun g => (s.groups.at g).occupants.at j
    let t := left.foldl (fun t g => t.markOccupant j false g) s
    let granted := left.filter t.grantable
    (t.openOrder (fun g => g.val) granted).foldl State.grant (t.drawnFor granted)

/-- A group record becomes FREE and its lease timer is cancelled (R142, R144, R149). -/
def State.freeGroup (s : State) (g : GroupId) : State :=
  s.setGroup g { s.groups.at g with state := .free, host := .h0, lease := 0, expiry := 0 }

/-! ### Result Store (Chapter 3) -/

/-- A frame returns to the tail of the free pool, and its host's in-use count falls (R56, R57). -/
def State.returnFrame (s : State) (h : HostId) (f : FrameId) : State :=
  { s with
    frames := s.frames.put f Frame.free
    pool := s.pool ++ [f]
    inUse := s.inUse.put h (s.inUse.get h - 1) }

/-- Every frame of a host's delivery queue returns to the pool, head first (R68, R72). -/
def State.flushDelivery (s : State) (h : HostId) : State :=
  let freed := (s.delivery.get h).foldl (fun t f => t.returnFrame h f) s
  { freed with delivery := freed.delivery.put h [] }

/-- The fill frame of a run that ends without delivery returns to the pool (R71). -/
def State.releaseFill (s : State) (j : JobId) : State :=
  match (s.job j).fillFrame with
  | none => s
  | some f => (s.returnFrame (s.job j).owner f).setJob j { s.job j with fillFrame := none }

/-! ### Sequence Store (Chapter 5) -/

/-- A sequence record becomes FREE and its step entries return to the pool (R93, R98). -/
def State.freeSeq (s : State) (k : SeqId) : State :=
  { (s.setSeq k Seq.free) with freeSteps := s.freeSteps + (s.seqs.at k).steps.length }

/-- A job record names a sequence no longer; an orphan that no job names is freed (R103). -/
def State.dropReference (s : State) (k : SeqId) : State :=
  let r := s.seqs.at k
  let t := s.setSeq k { r with refCount := r.refCount - 1 }
  if r.owner = none ∧ r.refCount ≤ 1 then t.freeSeq k else t

/-! ### Window Unit (Chapter 9) -/

/-- A window whose action names a freed job reverts to NOTIFY (R157). -/
def Window.revert (w : Window) (j : JobId) : Window :=
  if w.action = .startJob j then { w with action := .notify } else w

def State.revertWindows (s : State) (h : HostId) (j : JobId) : State :=
  { s with windows := s.windows.put h ((s.windows.get h).map fun w => w.revert j) }

/-! ### Job records and their timers -/

def State.stopPeriod (s : State) (j : JobId) : State := s.setJob j { s.job j with periodTimer := none }

def State.cancelDeadline (s : State) (j : JobId) : State := s.setJob j { s.job j with deadlineTimer := none }

/-- A job record returns to FREE: its sequence loses a reference, its owner's windows revert, and presentations fixed
for it are skipped (R20, R80, R103, R157, log 7). Its timers stop with it (R84, R44). -/
def State.freeJob (s : State) (j : JobId) : State :=
  let r := s.job j
  let t := ((s.setJob j Job.free).dropReference r.seq).revertWindows r.owner j
  { t with waiting := t.waiting.filter fun p => p.job != j }

/-! ### Conversion Engine (Chapter 6) -/

/-- The converter is released: no step, no settling job (R112, R113). -/
def State.releaseConverter (s : State) : State :=
  { s with engine := { s.engine with state := .idle, step := none, settlingJob := none } }

/-- The smallest of the interval requests that stand, or 4,096 (R116). -/
def effectiveInterval (r : PerHost (Option Nat)) : Nat :=
  match (HostId.all.filterMap r.get) with
  | [] => 4096
  | x :: xs => xs.foldl min x

/-- A host's interval request changes and the effective interval is recomputed (R116, R125). -/
def State.setRequest (s : State) (h : HostId) (n : Option Nat) : State :=
  let requests := s.engine.requests.put h n
  { s with engine := { s.engine with requests := requests, effective := effectiveInterval requests } }

/-- One more step converted since the last calibration, held at 65,599 (R114). -/
def countStep (n : Nat) : Nat := saturate 65599 n

end Sys2Proof.Machine
end

