-- ==== Sys2Proof/Machine/Flags.lean ====
section
/-! DEFINITION. The conditions the blocks compute from their records: due and overdue, eligibility and the blocked
indication, the order of two queue entries, the attention level, and whether a timer is due. -/

namespace Sys2Proof.Machine

/-! ### Calibration (R117) -/

/-- Calibration is due. -/
def Engine.due (e : Engine) : Bool := e.effective ≤ e.counter

/-- Calibration is overdue: the grace is 64 conversions. -/
def Engine.overdue (e : Engine) : Bool := e.effective + 64 ≤ e.counter

/-- A set of hosts holds at least one. -/
def someHost (p : PerHost Bool) : Bool := p.h0 || p.h1 || p.h2

/-- The requester set is not empty. -/
def Engine.requested (e : Engine) : Bool := someHost e.requesters

/-- The calibration in progress was started in FAULT: the failure count is 3 exactly then (R121, R122, log 16). -/
def Engine.calibratingInFault (e : Engine) : Bool := e.failures == 3

/-- The converter is free in IDLE, and in FAULT for a requested calibration (R108). -/
def Engine.free (e : Engine) : Bool := e.state == .idle || e.state == .fault

/-! ### The dispatch queue (R25, R26) -/

/-- Key 4 and key 5 of Table 2-1: the older trigger, then the lower job id for entries of one edge. -/
def precedesByStamp (now : Time) (a b : Job) (ja jb : JobId) : Bool :=
  if age now a.stamp.time ≠ age now b.stamp.time then age now b.stamp.time < age now a.stamp.time
  else a.stamp.mark.isSome && a.stamp.mark == b.stamp.mark && ja < jb

/-- One entry precedes another: the first key of Table 2-1 on which they differ decides (R25). -/
def precedes (now : Time) (a b : Job) (ja jb : JobId) : Bool :=
  if a.cls ≠ b.cls then a.cls == .urgent
  else if a.priority ≠ b.priority then b.priority < a.priority
  else if a.state ≠ b.state then a.state == .preempted
  else precedesByStamp now a b ja jb

/-! ### Eligibility (R27, R28, R145) -/

/-- A group's hold keeps a ROUTINE entry of this owner and job state from the converter. -/
def Group.blocks (g : Group) (owner : HostId) (st : JobState) : Bool :=
  match g.state with
  | .free => false
  | .pending => decide (g.host ≠ owner) && st == .pending
  | .held => decide (g.host ≠ owner)

/-- A ROUTINE entry held back by a hold on a group it touches (R27). URGENT entries never are (R28). -/
def State.heldBack (s : State) (j : JobId) : Bool :=
  match (s.job j).cls with
  | .urgent => false
  | .routine => (s.groupsOf j).any fun g => (s.groups.at g).blocks (s.job j).owner (s.job j).state

/-- The first queued entry that no hold keeps back. -/
def State.firstEligible (s : State) : Option JobId := s.queue.find? fun j => !s.heldBack j

/-- The queue holds an eligible URGENT entry. -/
def State.urgentWaits (s : State) : Bool := s.queue.any fun j => (s.job j).cls == .urgent && !s.heldBack j

/-- The settled level meets the minimum of a job's sequence (R7, R9, R12). -/
def State.settledFor (s : State) (j : JobId) : Bool := (s.seqOf j).minimum.rank ≤ s.exc.settled.rank

/-! ### Jobs -/

/-- A job that every command takes for FREE: its record is FREE, or it is in STOPPING with reason TEARDOWN (R2). -/
def Job.gone (r : Job) : Bool := r.state == .free || (r.state == .stopping && r.stopReason == some .teardown)

/-- The run number that the run in hand has or, in PENDING, will take (R47, R88). -/
def Job.reportedRun (r : Job) : BitVec 16 := if r.state = .pending then r.runNumber + 1 else r.runNumber

/-- The runs left after one counted run (R14, step 1). -/
def Job.runsLeft (r : Job) : Nat :=
  match r.repeatMode with
  | .count _ => r.runsRemaining - 1
  | .oneShot | .continuous => r.runsRemaining

/-- The repeat mode is satisfied by one more counted run (R14, step 2). -/
def Job.satisfied (r : Job) : Bool :=
  match r.repeatMode with
  | .oneShot => true
  | .count _ => r.runsLeft == 0
  | .continuous => false

/-- The next state of a counted run end (R14, step 2). -/
def Job.stateAfterRun (r : Job) : JobState :=
  if r.satisfied then .done else if r.disarmPending then .idle else .armed

/-- A counted run end now would put the job back in the queue by consuming its latch (R15). -/
def Job.reenters (r : Job) : Bool := r.stateAfterRun == .armed && r.latch.isSome

/-! ### Moments reached (R76) -/

/-- An optional expiry has been reached. -/
def expired (now : Time) : Option Time → Bool
  | none => false
  | some t => reached now t

/-- The step in progress completes 3 + e µs after its start (R109). -/
def StepInProgress.finish (p : StepInProgress) : Time := after p.start (3 + p.settle.val)

/-- A calibration completes 150 µs after its start (R119). -/
def Engine.calFinish (e : Engine) : Time := after e.calStart 150

/-- The attention level that a queue and a loss counter call for (R166). -/
def EventQueue.calls (q : EventQueue) : Bool := !q.queue.isEmpty || decide (q.loss ≠ 0)

end Sys2Proof.Machine
end

