-- ==== Sys2Proof/Machine/Operands.lean ====
section
/-! DEFINITION. The arguments of the host commands: the codes of Table 12-5 and the fields of Table 12-4, read from the
argument bytes. A reader answers none where a value is one its rule refuses with BAD_ARGUMENT (R186). -/

namespace Sys2Proof.Machine

/-- The value of byte `i` of the arguments; the argument length has been checked before (R180). -/
def argByte (args : List Byte) (i : Nat) : Nat := (args.getD i 0).toNat

/-- Two bytes, most significant first (R186). -/
def argPair (args : List Byte) (i : Nat) : Nat := argByte args i * 256 + argByte args (i + 1)

/-- Three bytes, most significant first (R186). -/
def argTriple (args : List Byte) (i : Nat) : Nat := argPair args i * 256 + argByte args (i + 2)

/-- A number below a bound as an index. -/
def index? (n : Nat) (v : Nat) : Option (Fin n) := if h : v < n then some ⟨v, h⟩ else none

/-! ### Enumeration codes (Table 12-5) -/

def scopeOf : Nat → Option Scope
  | 0 => some .priv
  | 1 => some .shared
  | _ => none

def levelOf : Nat → Option Level
  | 0 => some .off
  | 1 => some .low
  | 2 => some .mid
  | 3 => some .high
  | _ => none

def gainOf : Nat → Option Gain
  | 0 => some .x1
  | 1 => some .x2
  | 2 => some .x4
  | 3 => some .x8
  | _ => none

def classOf : Nat → Option JobClass
  | 0 => some .routine
  | 1 => some .urgent
  | _ => none

def sourceOf : Nat → Option TriggerSource
  | 0 => some .command
  | 1 => some .hostLine
  | 2 => some (.xt 0)
  | 3 => some (.xt 1)
  | 4 => some (.xt 2)
  | 5 => some (.xt 3)
  | 6 => some .period
  | 7 => some .window
  | _ => none

def busyOf : Nat → Option BusyPolicy
  | 0 => some .latch
  | 1 => some .drop
  | _ => none

def resumeOf : Nat → Option ResumePolicy
  | 0 => some .resume
  | 1 => some .restart
  | _ => none

def lateOf : Nat → Option LatePolicy
  | 0 => some .keep
  | 1 => some .drop
  | _ => none

def overflowOf : Nat → Option OverflowPolicy
  | 0 => some .refuse
  | 1 => some .reclaim
  | _ => none

/-- The repeat mode; its count byte is examined for COUNT alone and must not be 0 (R3, R186). -/
def repeatOf (mode count : Nat) : Option RepeatMode :=
  match mode with
  | 0 => some .oneShot
  | 1 => if count = 0 then none else some (.count count)
  | 2 => some .continuous
  | _ => none

/-- The period, 20 to 1,048,575 µs; its bytes are examined and recorded for source PERIOD alone (R3, R186). -/
def periodOf (source : TriggerSource) (value : Nat) : Option (Option Nat) :=
  if source ≠ .period then some none
  else if 20 ≤ value ∧ value ≤ 1048575 then some (some value)
  else none

/-- The deadline, 0 for absent (R186). -/
def deadlineOf (value : Nat) : Option Nat := if value = 0 then none else some value

/-! ### Sequences (Table 12-6, R99) -/

/-- A window reference code: 0 to 3, or 0xF for absent. -/
def windowRefOf (v : Nat) : Option (Option WindowId) :=
  if v = 15 then some none else (index? 4 v).map some

/-- One step from its two bytes: channel and gain, then window reference and settle extension. -/
def stepOf (a b : Byte) : Option SeqStep := do
  let channel ← index? 16 (a.toNat / 16)
  let gain ← gainOf (a.toNat % 16)
  let window ← windowRefOf (b.toNat / 16)
  let settle ← index? 8 (b.toNat % 16)
  some ⟨channel, gain, settle, window⟩

/-- The steps from their byte pairs. -/
def stepsOf : List Byte → Option (List SeqStep)
  | [] => some []
  | [_] => none
  | a :: b :: rest => do
    let st ← stepOf a b
    let more ← stepsOf rest
    some (st :: more)

/-- The target of DEFINE_SEQ. -/
inductive SeqTarget where
  | anyFree
  | index (k : SeqId)
deriving DecidableEq, Repr

def targetOf (v : Nat) : Option SeqTarget :=
  if v = 255 then some .anyFree else (index? 32 v).map .index

/-- The arguments of DEFINE_SEQ. -/
structure SeqArgs where
  target : SeqTarget
  scope : Scope
  minimum : Level
  steps : List SeqStep
deriving DecidableEq, Repr

/-- DEFINE_SEQ's arguments, its length included: 4 bytes and 2 for each step, 1 to 16 steps (R99 check 1, R180,
Table 12-4). -/
def seqArgs (args : List Byte) : Option SeqArgs := do
  if args.length < 4 ∨ args.length ≠ 4 + 2 * argByte args 3 then none
  if argByte args 3 = 0 ∨ 16 < argByte args 3 then none
  let target ← targetOf (argByte args 0)
  let scope ← scopeOf (argByte args 1)
  let minimum ← levelOf (argByte args 2)
  let steps ← stepsOf (args.drop 4)
  some ⟨target, scope, minimum, steps⟩

/-! ### Jobs (Table 12-4, R3) -/

/-- The arguments of CREATE_JOB. -/
structure JobArgs where
  seq : SeqId
  cls : JobClass
  priority : Fin 4
  source : TriggerSource
  period : Option Nat
  busy : BusyPolicy
  repeatMode : RepeatMode
  resume : ResumePolicy
  deadline : Option Nat
  late : LatePolicy
  overflow : OverflowPolicy
deriving DecidableEq, Repr

/-- CREATE_JOB's 15 argument bytes (R3 check 1, and the range of the sequence index of check 2). -/
def jobArgs (args : List Byte) : Option JobArgs := do
  let seq ← index? 32 (argByte args 0)
  let cls ← classOf (argByte args 1)
  let priority ← index? 4 (argByte args 2)
  let source ← sourceOf (argByte args 3)
  let period ← periodOf source (argTriple args 4)
  let busy ← busyOf (argByte args 7)
  let repeatMode ← repeatOf (argByte args 8) (argByte args 9)
  let resumed ← resumeOf (argByte args 10)
  let late ← lateOf (argByte args 13)
  let overflow ← overflowOf (argByte args 14)
  some ⟨seq, cls, priority, source, period, busy, repeatMode, resumed, deadlineOf (argPair args 11), late, overflow⟩

/-! ### Windows (Table 12-4, R152) -/

/-- The arguments of SET_WINDOW. -/
structure WindowArgs where
  window : WindowId
  low : BitVec 12
  high : BitVec 12
  action : WindowAction
deriving DecidableEq, Repr

/-- The expected length of SET_WINDOW: 7 when byte 5 is 1, otherwise 6 (R180, R186, Table 12-4). -/
def windowLength (args : List Byte) : Nat := if argByte args 5 = 1 then 7 else 6

/-- The action code with its job id. -/
def actionOf (code job : Nat) : Option WindowAction :=
  match code with
  | 0 => some .notify
  | 1 => (index? 24 job).map .startJob
  | _ => none

/-- A limit, 0 to 4095. -/
def limitOf (v : Nat) : Option (BitVec 12) := if v < 4096 then some (BitVec.ofNat 12 v) else none

/-- SET_WINDOW's arguments with the checks of R152 that need no job record. -/
def windowArgs (args : List Byte) : Option WindowArgs := do
  if args.length ≠ windowLength args then none
  let window ← index? 4 (argByte args 0)
  let low ← limitOf (argPair args 1)
  let high ← limitOf (argPair args 3)
  let action ← actionOf (argByte args 5) (argByte args 6)
  if high < low then none
  some ⟨window, low, high, action⟩

end Sys2Proof.Machine
end

