-- ==== Sys2Proof/Machine/Scheduling.lean ====
section
/-! DEFINITION. What the Job Controller, the Dispatcher and the Result Store do between them: run ends, deadlines,
the queue, selection, and the free, boundary and displacement decisions (Chapters 1 to 3). Every decision that an
arrival causes is taken in the arrival's own step (log 8). -/

namespace Sys2Proof.Machine

/-! ### The dispatch queue -/

/-- A job id goes immediately before the first entry it precedes, else to the tail (R25). -/
def placeInQueue (before : JobId → Bool) (j : JobId) : List JobId → List JobId
  | [] => [j]
  | k :: ks => if before k then j :: k :: ks else k :: placeInQueue before j ks

/-- A job enters the dispatch queue, with its blocked indication clear until the next decision (R25, R29). -/
def State.enqueue (s : State) (j : JobId) : State :=
  { (s.setJob j { s.job j with blocked := false }) with
    queue := placeInQueue (fun k => precedes s.timeBase (s.job j) (s.job k) j k) j s.queue }

/-- A job leaves the dispatch queue, and its blocked indication is cleared (R24, R29). -/
def State.dequeue (s : State) (j : JobId) : State :=
  { (s.setJob j { s.job j with blocked := false }) with queue := s.queue.erase j }

/-- Every queued entry's blocked indication is set when a hold keeps the entry back and cleared otherwise (R29). -/
def State.refreshBlocked (s : State) : State :=
  s.queue.foldl (fun t j => t.setJob j { t.job j with blocked := s.heldBack j }) s

/-! ### Run ends and deadlines -/

/-- The record after the bookkeeping common to counted run ends (R14, steps 1 and 4). -/
def Job.bookkept (r : Job) : Job :=
  { r with runsRemaining := r.runsLeft, stopReason := none, disarmPending := false }

/-- A job comes to rest in IDLE or DONE: the period timer stops, a latch present is discarded and counted, and DONE
is reported (R14 steps 5 and 6, R15). -/
def State.rest (s : State) (j : JobId) (st : JobState) : State :=
  let r := s.job j
  let missed := if r.latch.isSome then saturate 255 r.missed else r.missed
  let t := s.setJob j { r with state := st, latch := none, missed := missed, periodTimer := none }
  if st = .done then t.emit r.owner (some j) none (.jobDone r.runNumber missed) else t

/-- A job enters PENDING for a new run: trigger time and queue stamp are set, the missed count and deadline missed
start afresh, the job enters the queue and its deadline timer starts (R6, R15, R44). -/
def State.enterPending (s : State) (j : JobId) (stamp : Time) (mark : Option EdgeMark) : State :=
  let r := s.job j
  (s.setJob j { r with
    state := .pending, triggerTime := stamp, stamp := ⟨stamp, mark⟩, missed := 0, deadlineMissed := false, latch := none,
    deadlineTimer := r.deadline.map (after stamp) }).enqueue j

/-- A counted run end (R14, R15). A latch consumed into a new run may find that run's deadline already passed:
`late` says what happens then. -/
def State.endCounted (late : State → State) (s : State) (j : JobId) : State :=
  let r := s.job j
  let t := s.setJob j r.bookkept
  if r.stateAfterRun = .armed then
    match r.latch with
    | some stamp => late (t.enterPending j stamp none)
    | none => t.setJob j { t.job j with state := .armed }
  else t.rest j r.stateAfterRun

/-- DEADLINE_MISSED for the job's run (R47), and the timer's one expiry of the run is used (R44). -/
def State.reportLate (s : State) (j : JobId) : State :=
  let r := s.job j
  (s.setJob j { r with deadlineTimer := none }).emit r.owner (some j) r.fillFrame
    (.deadlineMissed r.reportedRun r.late r.state)

/-- A PENDING run is dropped for lateness: it leaves the queue, takes a number and ends counted without a frame
(R16). -/
def State.dropPending (late : State → State) (s : State) (j : JobId) : State :=
  let t := s.dequeue j
  (t.setJob j { t.job j with runNumber := (t.job j).runNumber + 1 }).endCounted late j

/-- A deadline expiry taken in PENDING (R45, R46). -/
def State.latePending (late : State → State) (s : State) (j : JobId) : State :=
  let t := s.reportLate j
  match (s.job j).late with
  | .keep => t.setJob j { t.job j with deadlineMissed := true }
  | .drop => t.dropPending late j

/-- The deadline of the run that a job has just entered PENDING with has already passed: the age of its trigger time
is at or above the deadline (R44). -/
def State.passedAtOnce (s : State) (j : JobId) : Bool :=
  match (s.job j).deadline with
  | none => false
  | some d => decide (d ≤ age s.timeBase (s.job j).triggerTime)

/-- A deadline that has passed when its timer is started expires at once (R44, R46, log 9). The run it drops holds no
latch, so the run end it causes recreates no further run. -/
def State.expireAtOnce (s : State) (j : JobId) : State :=
  if s.passedAtOnce j then s.latePending id j else s

/-- A counted run end with all that follows from its latch. -/
def State.endRun (s : State) (j : JobId) : State := s.endCounted (fun t => t.expireAtOnce j) j

/-- The job's run holds nothing any more: its frame, claim, occupancy and deadline timer go (R16, R17, R18, R23). -/
def State.releaseRun (s : State) (j : JobId) : State :=
  (((s.releaseFill j).removeClaim j).cancelDeadline j).vacate j

/-! ### Giving the converter to a job -/

/-- The Conversion Engine starts the step named by a job's next step (R109). -/
def State.startStep (s : State) (j : JobId) : State :=
  match (s.seqOf j).steps[(s.job j).nextStep]? with
  | none => s
  | some st =>
    { s with engine := { s.engine with
        state := .converting, settlingJob := none
        step := some ⟨j, (s.job j).nextStep, st.channel, st.gain, st.settle, s.timeBase⟩ } }

/-- A job enters RUNNING and its step starts (R7, R9, R12). -/
def State.run (s : State) (j : JobId) : State := (s.setJob j { s.job j with state := .running }).startStep j

/-- A selected job enters RUNNING when the settled level meets its minimum, and SETTLING otherwise (R7, R12, R32,
R113). -/
def State.giveConverter (s : State) (j : JobId) : State :=
  if s.settledFor j then s.run j
  else
    let t := s.setJob j { s.job j with state := .settling }
    { t with engine := { t.engine with state := .settling, settlingJob := some j, step := none } }

/-- HOLD_INTRUDED to the holder of each group that an URGENT job of another host touches, ascending (R146). -/
def State.reportIntrusion (s : State) (j : JobId) (run : BitVec 16) : State :=
  (s.groupsOf j).foldl (fun t g =>
    let r := s.groups.at g
    if r.state = .held ∧ r.host ≠ (s.job j).owner then
      t.emit r.host (some j) none (.holdIntruded g (s.job j).owner run)
    else t) s

/-- The Hold Manager learns of a selection for a new run: a ROUTINE job becomes an occupant, an URGENT one may intrude
(R7, R139, R146). -/
def State.tellHolds (s : State) (j : JobId) : State :=
  match (s.job j).cls with
  | .routine => s.occupy j
  | .urgent => s.reportIntrusion j (s.job j).runNumber

/-- A new run starts with this frame: number, frame, queue, claim, holds, converter (R7). -/
def State.startRun (s : State) (j : JobId) (f : FrameId) : State :=
  let t := s.dequeue j
  let r := t.job j
  (((t.setJob j { r with
      runNumber := r.runNumber + 1, fillFrame := some f, nextStep := 0, preemptCount := 0 }).placeClaim j).tellHolds
    j).giveConverter j

/-- The frame as allocation or reclaim hands it to a new run of a job (R54, R58, R60). -/
def State.newFrame (s : State) (j : JobId) : Frame :=
  { Frame.free with
    state := .filling, owner := (s.job j).owner, job := j, run := (s.job j).runNumber + 1
    triggerTime := (s.job j).triggerTime, sampleCount := (s.seqOf j).steps.length }

/-- Where the frame of a selected run comes from (R58, R59, R60). -/
inductive Allocation where
  | fromPool (f : FrameId) (rest : List FrameId)
  | reclaim (f : FrameId) (rest : List FrameId)
  | refused
deriving DecidableEq, Repr

/-- The Result Store's answer for a job: below the allowance the head of the pool, at it the head of the delivery
queue for RECLAIM, else a refusal. The pool is never empty below an allowance (R58, log 20). -/
def State.allocation (s : State) (j : JobId) : Allocation :=
  let h := (s.job j).owner
  if s.inUse.get h < s.allowance.get h then
    match s.pool with
    | [] => .refused
    | f :: rest => .fromPool f rest
  else
    match (s.job j).overflow, s.delivery.get h with
    | .reclaim, f :: rest => .reclaim f rest
    | _, _ => .refused

/-- A frame taken from the pool for a job (R58). -/
def State.takeFrame (s : State) (j : JobId) (f : FrameId) (rest : List FrameId) : State :=
  let h := (s.job j).owner
  { s with
    frames := s.frames.put f (s.newFrame j), pool := rest, inUse := s.inUse.put h (s.inUse.get h + 1) }

/-- The oldest undelivered frame of the owner taken for a job's new run and reported lost (R60, R61). -/
def State.reclaimFrame (s : State) (j : JobId) (f : FrameId) (rest : List FrameId) : State :=
  let h := (s.job j).owner
  let lost := s.frames.at f
  let t := s.emit h (some lost.job) (some f) (.frameReclaimed lost.run j ((s.job j).runNumber + 1))
  { t with frames := t.frames.put f (s.newFrame j), delivery := t.delivery.put h rest }

/-- A run whose frame is refused ends counted at once (R8). -/
def State.refuseRun (s : State) (j : JobId) : State :=
  let t := s.dequeue j
  let r := { t.job j with runNumber := (t.job j).runNumber + 1, deadlineTimer := none }
  ((t.setJob j r).emit r.owner (some j) none (.frameOverrun r.runNumber r.overflow)).endRun j

/-- A RESTART reselection clears the frame's valid marks and sets its restarted flag (R63). -/
def Frame.restart (f : Frame) : Frame :=
  { f with restarted := true, samples := f.samples.map fun x => { x with valid := false } }

/-- A PREEMPTED job continues its run under its resume policy (R12, R63). -/
def State.resumeRun (s : State) (j : JobId) : State :=
  let t := s.dequeue j
  match (t.job j).resume, (t.job j).fillFrame with
  | .resume, _ => t.giveConverter j
  | .restart, none => (t.setJob j { t.job j with nextStep := 0 }).giveConverter j
  | .restart, some f =>
    ((t.setFrame f (t.frames.at f).restart).setJob j { t.job j with nextStep := 0 }).giveConverter j

/-! ### Decisions -/

/-- A calibration starts (R119). -/
def Engine.startCalibration (e : Engine) (now : Time) : Engine :=
  { e with
    state := .calibrating, served := e.requesters, requesters := PerHost.same false, startCount := e.counter
    cause := if e.requested then .requested else if e.overdue then .overdue else .due
    calStart := now }

/-- Selection from the head of the queue, again after each refusal (R32, R33). Each refusal takes an entry from the
queue or a latch from a job, so the bound given by `select` is never used up. -/
def State.selectFrom : Nat → State → State
  | 0, s => s
  | n + 1, s =>
    match s.firstEligible with
    | none => s
    | some j =>
      if (s.job j).state = .preempted then s.resumeRun j
      else match s.allocation j with
        | .fromPool f rest => (s.takeFrame j f rest).startRun j f
        | .reclaim f rest => (s.reclaimFrame j f rest).startRun j f
        | .refused => State.selectFrom n (s.refuseRun j)

def State.select (s : State) : State := State.selectFrom (s.queue.length + allJobs.length + 1) s

/-- A free decision: the blocked indications are refreshed, then a calibration starts, or a job is selected, or nothing
(R29, R31, R32, R34, R43). It answers every arrival before it. With the converter taken there is none. -/
def State.freeDecision (s : State) : State :=
  let t := State.refreshBlocked { s with decisionDue := false }
  match s.engine.state with
  | .idle =>
    if t.engine.due || t.engine.requested then { t with engine := t.engine.startCalibration t.timeBase }
    else t.select
  | .fault =>
    if t.engine.requested then { t with engine := t.engine.startCalibration t.timeBase } else t
  | .settling | .converting | .calibrating => s

/-- A ROUTINE job leaves the converter for the queue, keeping frame, claim and stamp (R11). -/
def State.preempt (s : State) (j : JobId) : State :=
  let r := s.job j
  (s.setJob j { r with state := .preempted, preemptCount := saturate 255 r.preemptCount }).enqueue j

/-- The job that settles, if it is ROUTINE. -/
def State.settlingRoutine (s : State) : Option JobId :=
  if s.engine.state = .settling then s.engine.settlingJob.filter fun j => (s.job j).cls == .routine else none

/-- A displacement: the settling ROUTINE job becomes PREEMPTED, the converter is free and a free decision follows
(R38, R39). -/
def State.displace (s : State) : State :=
  match s.settlingRoutine with
  | none => s
  | some k => ((s.preempt k).releaseConverter).freeDecision

/-- An arrival of R30 reaches the Dispatcher: a free decision when the converter is free. -/
def State.arrival (s : State) : State := if s.engine.free then s.freeDecision else s

/-- A job has entered the queue: an URGENT one displaces a settling ROUTINE job, and any entry is an arrival (R30,
R38). -/
def State.entryArrival (s : State) (cls : JobClass) : State :=
  if cls = .urgent ∧ s.settlingRoutine.isSome then s.displace else s.arrival

/-- The effective interval has changed: a settling ROUTINE job is displaced when calibration is now overdue, and with
the converter free it is an arrival (R39, R41, R116). -/
def State.intervalArrival (s : State) : State :=
  if s.engine.overdue && s.settlingRoutine.isSome then s.displace else s.arrival

/-- A boundary decision for a job in RUNNING: an URGENT job continues; a ROUTINE job yields to an eligible URGENT
entry or an overdue calibration and continues otherwise (R35, R36). -/
def State.boundaryDecision (s : State) (j : JobId) : State :=
  let t := s.refreshBlocked
  if (s.job j).cls = .routine ∧ (t.urgentWaits || t.engine.overdue) = true then
    ((t.preempt j).releaseConverter).freeDecision
  else t.startStep j

/-! ### Triggers at a job (R86 to R88) -/

/-- What a trigger did to its job (Table 4-2, and nothing for a job that ignores it). -/
inductive TriggerOutcome where
  | queued | latched | missed | ignored
deriving DecidableEq, Repr

/-- A job with a run in hand that busy handling applies to (R87). -/
def Job.busyNow (r : Job) : Bool :=
  match r.state with
  | .pending | .settling | .running | .preempted => true
  | .stopping => r.stopReason != some .teardown
  | .free | .idle | .armed | .done => false

/-- What a trigger would do to a job now (R86, R87). -/
def Job.onTrigger (r : Job) : TriggerOutcome :=
  if r.state = .armed then .queued
  else if r.busyNow then
    if r.disarmPending then .missed
    else if r.busy = .latch ∧ r.latch = none then .latched
    else .missed
  else .ignored

/-- A trigger counted as missed, reported on the first miss of a run (R87, R88). -/
def State.missTrigger (s : State) (j : JobId) (source : TriggerSource) (stamp : Time) : State :=
  let r := s.job j
  let t := s.setJob j { r with missed := saturate 255 r.missed }
  if r.missed = 0 then
    t.emit r.owner (some j) r.fillFrame (.triggerMissed r.reportedRun source stamp r.busy)
  else t

/-- One trigger taken by one job; `entered` is how the queue entry of an ARMED job reaches the Dispatcher (R6, R86,
R87). -/
def State.takeTriggerThen (entered : State → State) (s : State) (j : JobId) (source : TriggerSource) (stamp : Time)
    (mark : Option EdgeMark) : State :=
  match (s.job j).onTrigger with
  | .queued => entered ((s.enterPending j stamp mark).expireAtOnce j)
  | .latched => s.setJob j { s.job j with latch := some stamp }
  | .missed => s.missTrigger j source stamp
  | .ignored => s

/-- One trigger taken by one job, with the decision its entry causes (R30, R38). -/
def State.takeTrigger (s : State) (j : JobId) (source : TriggerSource) (stamp : Time) (mark : Option EdgeMark) :
    State := State.takeTriggerThen (fun t => t.entryArrival (s.job j).cls) s j source stamp mark

end Sys2Proof.Machine
end

