-- ==== Sys2Proof/WellFormed.lean ====
section
/-! DEFINITION. Which command terms stand for something the part can be given: the operand ranges that the types do
not already fix. A command frame carries at most 60 argument bytes (Table 12-1); every other bound is in the types. -/

namespace Sys2Proof

/-- The argument bytes of a host command, and none for the other rows. -/
def Instr.argBytes : Instr → List Byte
  | .nop _ a | .status _ a | .defineSeq _ a | .deleteSeq _ a | .readSeq _ a | .createJob _ a
  | .armJob _ a | .disarmJob _ a | .startJob _ a | .abortJob _ a | .deleteJob _ a | .jobStatus _ a
  | .fetchFrame _ a | .flushFrames _ a | .setWindow _ a | .clearWindow _ a | .acquireHold _ a
  | .renewHold _ a | .releaseHold _ a | .claimExc _ a | .requestCal _ a | .setCalInterval _ a
  | .readEvents _ a | .hostReset _ a => a
  | .resetNAssert | .resetNRelease _ _ _ | .transactionBegin _ | .transactionEnd _ _ | .responseReady _
  | .trigEdge _ | .xtEdge _ | .periodExpiry _ | .triggerPresented _ | .stepComplete _
  | .calibrationComplete _ | .settleExpiry | .deadlineExpiry _ | .leaseExpiry _
  | .triggerLineFallingEdge _ => []

/-- The length field of a command frame is 0 to 60 (R172, Table 12-1). -/
def Instr.wf (i : Instr) : Bool := i.argBytes.length ≤ 60

end Sys2Proof
end

