-- ==== Sys2Proof/Decode.lean ====
section
/-! DEFINITION. Command frames: the CRC-8, the frame a host sends, the checks a port makes on the frame it received
and the command it passes on. The opcode table gives its rows no bits, so no table word spells a command. -/

namespace Sys2Proof

/-- One shift of the CRC register: the polynomial is combined in when a one is shifted out (R187). -/
def crcShift (r : Byte) : Byte := if r.msb then (r <<< 1) ^^^ 0x07 else r <<< 1

/-- One covered byte: combined with the register, then eight shifts (R187). -/
def crcByte (r b : Byte) : Byte :=
  crcShift (crcShift (crcShift (crcShift (crcShift (crcShift (crcShift (crcShift (r ^^^ b))))))))

/-- The CRC-8 of the covered bytes in frame order, with initial value 0 and no final inversion (R187). -/
def crc8 (bytes : List Byte) : Byte := bytes.foldl crcByte 0

/-- The number of bytes of a transaction (R170). -/
def frameBytes : Nat := 64

/-- A frame's covered bytes followed by their CRC and filler up to byte 63 (Tables 12-1, 12-2). -/
def sealFrame (filler : Byte) (covered : List Byte) : List Byte :=
  let whole := covered ++ [crc8 covered]
  whole ++ List.replicate (frameBytes - whole.length) filler

/-- The command code of a host command (Table 12-4). The other rows come through no frame. -/
def Instr.code : Instr → Option Byte
  | .nop _ _ => some 0x01
  | .status _ _ => some 0x02
  | .defineSeq _ _ => some 0x10
  | .deleteSeq _ _ => some 0x11
  | .readSeq _ _ => some 0x12
  | .createJob _ _ => some 0x20
  | .armJob _ _ => some 0x21
  | .disarmJob _ _ => some 0x22
  | .startJob _ _ => some 0x23
  | .abortJob _ _ => some 0x24
  | .deleteJob _ _ => some 0x25
  | .jobStatus _ _ => some 0x26
  | .fetchFrame _ _ => some 0x30
  | .flushFrames _ _ => some 0x31
  | .setWindow _ _ => some 0x40
  | .clearWindow _ _ => some 0x41
  | .acquireHold _ _ => some 0x50
  | .renewHold _ _ => some 0x51
  | .releaseHold _ _ => some 0x52
  | .claimExc _ _ => some 0x60
  | .requestCal _ _ => some 0x61
  | .setCalInterval _ _ => some 0x62
  | .readEvents _ _ => some 0x70
  | .hostReset _ _ => some 0x7F
  | .resetNAssert | .resetNRelease _ _ _ | .transactionBegin _ | .transactionEnd _ _ | .responseReady _
  | .trigEdge _ | .xtEdge _ | .periodExpiry _ | .triggerPresented _ | .stepComplete _
  | .calibrationComplete _ | .settleExpiry | .deadlineExpiry _ | .leaseExpiry _
  | .triggerLineFallingEdge _ => none

/-- The host that sends a host command. -/
def Instr.caller : Instr → Option HostId
  | .nop h _ | .status h _ | .defineSeq h _ | .deleteSeq h _ | .readSeq h _ | .createJob h _
  | .armJob h _ | .disarmJob h _ | .startJob h _ | .abortJob h _ | .deleteJob h _ | .jobStatus h _
  | .fetchFrame h _ | .flushFrames h _ | .setWindow h _ | .clearWindow h _ | .acquireHold h _
  | .renewHold h _ | .releaseHold h _ | .claimExc h _ | .requestCal h _ | .setCalInterval h _
  | .readEvents h _ | .hostReset h _ => some h
  | .resetNAssert | .resetNRelease _ _ _ | .transactionBegin _ | .transactionEnd _ _ | .responseReady _
  | .trigEdge _ | .xtEdge _ | .periodExpiry _ | .triggerPresented _ | .stepComplete _
  | .calibrationComplete _ | .settleExpiry | .deadlineExpiry _ | .leaseExpiry _
  | .triggerLineFallingEdge _ => none

/-- The command that a code names for a calling host, with its argument bytes (Table 12-4); none for a code that
names none of the 24 commands (R172, check 3). -/
def commandOf (h : HostId) (code : Byte) (args : List Byte) : Option Instr :=
  match code.toNat with
  | 0x01 => some (.nop h args)
  | 0x02 => some (.status h args)
  | 0x10 => some (.defineSeq h args)
  | 0x11 => some (.deleteSeq h args)
  | 0x12 => some (.readSeq h args)
  | 0x20 => some (.createJob h args)
  | 0x21 => some (.armJob h args)
  | 0x22 => some (.disarmJob h args)
  | 0x23 => some (.startJob h args)
  | 0x24 => some (.abortJob h args)
  | 0x25 => some (.deleteJob h args)
  | 0x26 => some (.jobStatus h args)
  | 0x30 => some (.fetchFrame h args)
  | 0x31 => some (.flushFrames h args)
  | 0x40 => some (.setWindow h args)
  | 0x41 => some (.clearWindow h args)
  | 0x50 => some (.acquireHold h args)
  | 0x51 => some (.renewHold h args)
  | 0x52 => some (.releaseHold h args)
  | 0x60 => some (.claimExc h args)
  | 0x61 => some (.requestCal h args)
  | 0x62 => some (.setCalInterval h args)
  | 0x70 => some (.readEvents h args)
  | 0x7F => some (.hostReset h args)
  | _ => none

/-- What a port finds in the receive frame of a complete transaction (R172). -/
inductive FrameCheck where
  /-- The length field is above 60. -/
  | badLength
  /-- The CRC does not match. -/
  | badFrame
  /-- The code names no command. -/
  | unknownCommand
  /-- The frame passes and carries this command. -/
  | command (i : Instr)
deriving DecidableEq, Repr

/-- The checks of R172 on a receive frame of 64 bytes, in their order. -/
def checkFrame (h : HostId) (frame : List Byte) : FrameCheck :=
  let n := (frame.getD 2 0).toNat
  if n > 60 then .badLength
  else if crc8 (frame.take (3 + n)) ≠ frame.getD (3 + n) 0 then .badFrame
  else match commandOf h (frame.getD 0 0) ((frame.drop 3).take n) with
    | none => .unknownCommand
    | some i => .command i

/-- The tag field of a command frame (Table 12-1). -/
def frameTag (frame : List Byte) : Byte := frame.getD 1 0

/-- The 64-byte frame in which a host sends a command with a tag and a filler byte of its choice (Table 12-1); none
for a row that comes through no frame. -/
def Instr.toFrame (i : Instr) (tag filler : Byte) : Option (List Byte) :=
  i.code.map fun c => sealFrame filler ([c, tag, BitVec.ofNat 8 i.argBytes.length] ++ i.argBytes)

/-- The command that a word of the opcode table's bits spells: the table gives bits for no row, so none does. -/
def decodeTableWord (_nbits _w : Nat) : Option Instr := none

end Sys2Proof
end

