-- ==== Sys2Proof/Machine/Wire.lean ====
section
/-! DEFINITION. What the part sends: status codes, enumeration codes, the images of frames, event records, STATUS and
JOB_STATUS, and the response frame (Chapter 12). Numbers go most significant byte first (R186). -/

namespace Sys2Proof.Machine

/-! ### Numbers -/

def byteOf (n : Nat) : Byte := BitVec.ofNat 8 n

/-- A number in `k` bytes, most significant first (R186). -/
def bytesOf : Nat → Nat → List Byte
  | 0, _ => []
  | k + 1, n => byteOf (n / 256 ^ k) :: bytesOf k n

/-- Fields of given widths packed into one number, the first field highest. -/
def packBits (fields : List (Nat × Nat)) : Nat := fields.foldl (fun acc f => acc * 2 ^ f.1 + f.2 % 2 ^ f.1) 0

/-- One byte packed from fields, the highest first. -/
def bitsByte (fields : List (Nat × Nat)) : Byte := byteOf (packBits fields)

def bit (b : Bool) : Nat := if b then 1 else 0

/-! ### Codes (Tables 12-3, 12-5) -/

def Status.code : Status → Byte
  | .ok => 0x00
  | .pending => 0x01
  | .empty => 0x02
  | .badFrame => 0x10
  | .badLength => 0x11
  | .unknownCommand => 0x12
  | .badArgument => 0x13
  | .notOwner => 0x14
  | .noSpace => 0x15
  | .inUse => 0x16
  | .wrongState => 0x17
  | .heldByOther => 0x18
  | .notReady => 0x20
  | .startup => 0x21

def hostCode : HostId → Nat
  | .h0 => 0
  | .h1 => 1
  | .h2 => 2

def ownerCode : Option HostId → Nat
  | none => 3
  | some h => hostCode h

def Scope.code : Scope → Nat
  | .priv => 0
  | .shared => 1

def Gain.code : Gain → Nat
  | .x1 => 0
  | .x2 => 1
  | .x4 => 2
  | .x8 => 3

def JobClass.code : JobClass → Nat
  | .routine => 0
  | .urgent => 1

def TriggerSource.code : TriggerSource → Nat
  | .command => 0
  | .hostLine => 1
  | .xt n => 2 + n.val
  | .period => 6
  | .window => 7

def BusyPolicy.code : BusyPolicy → Nat
  | .latch => 0
  | .drop => 1

def RepeatMode.code : RepeatMode → Nat
  | .oneShot => 0
  | .count _ => 1
  | .continuous => 2

/-- The repeat count byte, 0 unless COUNT (Table 12-9). -/
def RepeatMode.countByte : RepeatMode → Nat
  | .count n => n
  | .oneShot | .continuous => 0

def ResumePolicy.code : ResumePolicy → Nat
  | .resume => 0
  | .restart => 1

def LatePolicy.code : LatePolicy → Nat
  | .keep => 0
  | .drop => 1

def OverflowPolicy.code : OverflowPolicy → Nat
  | .refuse => 0
  | .reclaim => 1

def JobState.code : JobState → Nat
  | .free => 0
  | .idle => 1
  | .armed => 2
  | .pending => 3
  | .settling => 4
  | .running => 5
  | .preempted => 6
  | .stopping => 7
  | .done => 8

def stopCode : Option StopReason → Nat
  | none => 0
  | some .abort => 1
  | some .late => 2
  | some .teardown => 3

def ConverterState.code : ConverterState → Nat
  | .idle => 0
  | .settling => 1
  | .converting => 2
  | .calibrating => 3
  | .fault => 4

def GroupState.code : GroupState → Nat
  | .free => 0
  | .pending => 1
  | .held => 2

def Zone.code : Zone → Nat
  | .none => 0
  | .inside => 1
  | .below => 2
  | .above => 3

def LastZone.code : LastZone → Nat
  | .unknown => 0
  | .inside => 1
  | .below => 2
  | .above => 3

def CalCause.code : CalCause → Nat
  | .startup => 0
  | .requested => 1
  | .due => 2
  | .overdue => 3

/-- A frame id or 0xFF (R186). -/
def frameCode (f : Option FrameId) : Nat := f.elim 0xFF Fin.val

/-- A job id or 0xFF (R186). -/
def jobCode (j : Option JobId) : Nat := j.elim 0xFF Fin.val

/-! ### Steps and frames (Tables 12-6, 12-7) -/

/-- The two bytes of a step. -/
def SeqStep.image (st : SeqStep) : List Byte :=
  [bitsByte [(4, st.channel.val), (4, st.gain.code)],
   bitsByte [(4, st.window.elim 0xF Fin.val), (4, st.settle.val)]]

/-- The three bytes of a sample. -/
def Sample.image (x : Sample) : List Byte :=
  [bitsByte [(4, x.channel.val), (2, x.gain.code), (2, x.zone.code)],
   bitsByte [(1, bit x.stale), (3, 0), (4, x.code.toNat / 256)],
   byteOf (x.code.toNat % 256)]

/-- The FETCH_FRAME payload of a frame (R67, Table 12-7). -/
def Frame.image (f : Frame) (id : FrameId) : List Byte :=
  [byteOf id.val, byteOf f.job.val] ++ bytesOf 2 f.run.toNat ++ bytesOf 4 f.triggerTime.toNat ++
  [bitsByte [(1, bit f.restarted), (1, bit f.stalePresent), (1, bit f.deadlineMissed)],
   byteOf f.preemptCount, byteOf f.missedCount, byteOf f.sampleCount] ++
  ((f.samples.toList.take f.sampleCount).map Sample.image).flatten

/-! ### Event records (R188, Table 12-10) -/

/-- A run number in a record: its low 8 bits. -/
def runByte (r : BitVec 16) : Byte := byteOf r.toNat

/-- A kind other than LIMIT: code, low 16 bits of the timestamp, then the detail bytes and zeros up to eight. -/
def plainImage (code : Nat) (stamp : Time) (detail : List Byte) : List Byte :=
  byteOf code :: bytesOf 2 stamp.toNat ++ detail ++ List.replicate (5 - detail.length) 0

/-- A calibration record's detail: cause and failure count, then the start count in three bytes. -/
def calDetail (cause : CalCause) (failures start : Nat) : List Byte :=
  bitsByte [(2, failures), (2, cause.code)] :: bytesOf 3 start

/-- The eight bytes of an event record. The bits of a detail byte that Table 12-10 gives to nothing are 0, a DESIGN
CHOICE (log 28). -/
def Event.image (e : Event) : List Byte :=
  match e.body with
  | .deviceReset h alloc n => plainImage 0x01 e.stamp [byteOf (hostCode h), byteOf alloc.toNat, byteOf n]
  | .runComplete run => plainImage 0x02 e.stamp [byteOf (jobCode e.job), byteOf (frameCode e.frame), runByte run]
  | .jobDone run missed => plainImage 0x03 e.stamp [byteOf (jobCode e.job), 0xFF, runByte run, byteOf missed]
  | .frameOverrun run p => plainImage 0x04 e.stamp [byteOf (jobCode e.job), 0xFF, runByte run, byteOf p.code]
  | .frameReclaimed lost j run =>
    plainImage 0x05 e.stamp
      [byteOf (jobCode e.job), byteOf (frameCode e.frame), runByte lost, byteOf j.val, runByte run]
  | .triggerMissed run src stamp p =>
    plainImage 0x06 e.stamp
      ([bitsByte [(3, src.code), (5, jobCode e.job)], bitsByte [(1, p.code), (6, e.frame.elim 63 Fin.val)],
        runByte run] ++ bytesOf 2 stamp.toNat)
  | .deadlineMissed run p st =>
    plainImage 0x07 e.stamp
      [byteOf (jobCode e.job), byteOf (frameCode e.frame), runByte run, bitsByte [(4, st.code), (3, 0), (1, p.code)]]
  | .jobAborted run missed => plainImage 0x08 e.stamp [byteOf (jobCode e.job), 0xFF, runByte run, byteOf missed]
  | .holdGranted g lease expiry =>
    plainImage 0x09 e.stamp ([byteOf g.val, byteOf lease] ++ bytesOf 2 expiry.toNat)
  | .holdExpired g lease => plainImage 0x0A e.stamp [byteOf g.val, byteOf lease]
  | .holdIntruded g h run =>
    plainImage 0x0B e.stamp [byteOf (jobCode e.job), bitsByte [(2, hostCode h), (2, g.val)], runByte run]
  | .calDone cause start before => plainImage 0x0C e.stamp (calDetail cause before start)
  | .calFailed cause start failures => plainImage 0x0D e.stamp (calDetail cause failures start)
  | .converterFault => plainImage 0x0E e.stamp []
  | .converterRecovered => plainImage 0x0F e.stamp []
  | .limit w step ch code zone last run =>
    bytesOf 8 (packBits
      [(1, 1), (16, e.stamp.toNat), (5, jobCode e.job), (6, frameCode e.frame), (2, w.val), (4, step), (4, ch.val),
       (12, code.toNat), (2, zone.code), (2, last.code), (8, run.toNat), (2, 0)])

/-- The READ_EVENTS payload (R164, R188). -/
def eventsImage (read : List Event) (left loss : Nat) : List Byte :=
  [bitsByte [(5, left), (3, read.length)], byteOf loss] ++ (read.map Event.image).flatten

/-! ### READ_SEQ, JOB_STATUS and STATUS (R102, R21, R182; Tables 12-4, 12-8, 12-9) -/

def Seq.image (q : Seq) (k : SeqId) : List Byte :=
  [byteOf k.val, byteOf (ownerCode q.owner), byteOf q.scope.code, byteOf q.minimum.rank, byteOf q.refCount,
   byteOf q.steps.length] ++ (q.steps.map SeqStep.image).flatten

/-- The JOB_STATUS payload; `openLatch` fills the latch field while no latch is present (log 14), and
bits 7:5 of byte 11, given to nothing, are 0 (log 28). -/
def Job.image (r : Job) (j : JobId) (openLatch : Time) : List Byte :=
  [byteOf j.val,
   bitsByte [(1, bit r.blocked), (1, r.cls.code), (2, hostCode r.owner), (4, r.state.code)],
   bitsByte [(1, r.resume.code), (2, r.priority.val), (5, r.seq.val)],
   bitsByte [(1, r.overflow.code), (1, r.late.code), (2, r.repeatMode.code), (1, r.busy.code), (3, r.source.code)],
   byteOf r.repeatMode.countByte] ++
  bytesOf 3 (r.period.getD 0) ++ bytesOf 2 (r.deadline.getD 0) ++
  [byteOf r.runsRemaining,
   bitsByte [(2, stopCode r.stopReason), (1, bit r.disarmPending), (1, bit r.deadlineMissed), (1, bit r.latch.isSome)]] ++
  bytesOf 4 (r.latch.getD openLatch).toNat ++
  [byteOf r.missed] ++ bytesOf 2 r.runNumber.toNat ++ bytesOf 4 r.triggerTime.toNat ++
  [byteOf r.nextStep, byteOf (frameCode r.fillFrame), byteOf r.preemptCount]

/-- One STATUS byte of a group; the host bits of a FREE group are open (R148, log 14). Table 12-8 gives bits 7:4 to
nothing, and they are 0, a DESIGN CHOICE (log 28). -/
def Group.statusByte (g : Group) (openHost : Nat) : Byte :=
  bitsByte [(2, if g.state = .free then openHost else hostCode g.host), (2, g.state.code)]

/-- Four STATUS bytes of a group: the caller's lease expiry; or its foreign occupants in the last byte, where Table 12-8
gives the three bytes before it to nothing and they are 0, a DESIGN CHOICE (log 28); or 0 (R148). -/
def State.groupDetail (s : State) (h : HostId) (g : GroupId) : List Byte :=
  let r := s.groups.at g
  if r.host = h ∧ r.state = .held then bytesOf 4 r.expiry.toNat
  else if r.host = h ∧ r.state = .pending then bytesOf 4 (s.foreignOccupants g h)
  else bytesOf 4 0

/-- Two STATUS bytes of a window; bits 7:4 of the first, given to nothing, are 0 (log 28). -/
def Window.statusBytes (w : Window) : List Byte :=
  match w.action with
  | .notify => [bitsByte [(2, w.lastZone.code), (1, 0), (1, bit w.enabled)], 0xFF]
  | .startJob j => [bitsByte [(2, w.lastZone.code), (1, 1), (1, bit w.enabled)], byteOf j.val]

/-- The number of FREE job records. -/
def State.freeJobs (s : State) : Nat := (s.jobs.toList.filter fun r => r.state == .free).length

/-- The number of FREE sequence records. -/
def State.freeSeqs (s : State) : Nat := (s.seqs.toList.filter fun q => !q.defined).length

/-- A payload field that is not meaningful now (log 14). -/
def State.openField (s : State) (field : Nat) : BitVec 32 := Config.openField s.draws field

/-- The STATUS payload of a caller (Table 12-8); bits that the table gives to nothing are 0 (log 28). -/
def State.statusImage (s : State) (h : HostId) : List Byte :=
  let e := s.engine
  [bitsByte [(1, bit e.overdue), (1, bit e.due), (1, bit e.stale), (3, e.state.code), (2, hostCode h)]] ++
  bytesOf 4 s.timeBase.toNat ++ [byteOf s.freeJobs] ++ bytesOf 2 s.freeSteps ++ [byteOf s.freeSeqs] ++
  bytesOf 3 e.counter ++
  [bitsByte [(1, bit (e.served.get h)), (1, bit (e.requesters.get h)), (2, e.failures)]] ++
  bytesOf 2 e.effective ++ bytesOf 2 ((e.requests.get h).getD 0) ++
  [bitsByte [(2, s.exc.highestTransient.rank), (2, s.exc.settled.rank), (2, s.exc.output.rank),
     (2, (s.exc.standing.get h).rank)],
   byteOf (s.exc.target.elim 0 Level.rank)] ++
  bytesOf 4 (if s.exc.target.isSome then s.exc.expiry else s.openField 0).toNat ++
  [byteOf (s.allowance.get h), byteOf (s.inUse.get h), byteOf (s.delivery.get h).length, byteOf s.pool.length] ++
  allGroups.map (fun g => (s.groups.at g).statusByte (s.openField (2 + g.val)).toNat) ++
  (allGroups.map (s.groupDetail h)).flatten ++
  ((s.windows.get h).toList.map Window.statusBytes).flatten ++
  [byteOf (s.events.get h).queue.length, byteOf (s.events.get h).loss]

/-! ### The response frame (R174, Table 12-2) -/

/-- The 64-byte outgoing image of a response: its frame, then filler 0xFF. -/
def Response.image (r : Response) : List Byte :=
  sealFrame 0xFF ([r.status.code, r.tag, byteOf r.payload.length] ++ r.payload)

end Sys2Proof.Machine
end

