-- ==== Sys2Proof/Machine/Replies.lean ====
section
/-! DEFINITION. How a host command is taken (R173): the port's command in hand reaches its owning block, and the
block's response record goes to the port. -/

namespace Sys2Proof.Machine

/-- A block's answer to a command: the state after it, and the response record. -/
structure Reply where
  state : State
  status : Status
  payload : List Byte
deriving DecidableEq, Repr

/-- A refused command has no effect and no payload (R178). -/
def State.refuse (s : State) (st : Status) : Reply := ⟨s, st, []⟩

/-- A command carried out, with its payload. -/
def State.answer (s : State) (payload : List Byte) : Reply := ⟨s, .ok, payload⟩

/-- The port prepares the response with the command's tag (R173). -/
def State.respond (s : State) (h : HostId) (st : Status) (payload : List Byte) : State :=
  s.setPort h { s.port h with inHand := none, prepared := some ⟨st, (s.port h).tagInHand, payload⟩ }

/-- The part works and the port of a host has passed on this command, which no block has taken yet (R173). -/
def State.carries (s : State) (h : HostId) (i : Instr) : Bool := !s.inReset && (s.port h).inHand == some i

/-- The state after a command is taken by its block. A command that the port has not in hand is not an arrival of the
part, and changes nothing (R173, log 17). -/
def State.take (s : State) (h : HostId) (i : Instr) (block : State → Reply) : State :=
  if s.carries h i then (block s).state.respond h (block s).status (block s).payload else s

/-- A command whose length field differs from its expected length is refused before any other check (R180). -/
def expecting (n : Nat) (args : List Byte) (block : State → Reply) (s : State) : Reply :=
  if args.length = n then block s else s.refuse .badArgument

/-- An arrival of the part's own; while RESET_N is asserted there is none (R22, R177). -/
def State.live (s : State) (f : State → State) : State := if s.inReset then s else f s

/-- The first three checks of a job command (R2). -/
def State.commandedJob (s : State) (h : HostId) (args : List Byte) : Except Status JobId :=
  match index? 24 (argByte args 0) with
  | none => .error .badArgument
  | some j =>
    if (s.job j).gone then .error .badArgument
    else if (s.job j).owner ≠ h then .error .notOwner
    else .ok j

/-- A job command: its length, the checks of R2, then its own rule. -/
def jobCommand (h : HostId) (args : List Byte) (body : JobId → State → Reply) : State → Reply :=
  expecting 1 args fun s =>
    match s.commandedJob h args with
    | .error st => s.refuse st
    | .ok j => body j s

/-- A group command: its length and the range of its group (R140, R143, R144). -/
def groupCommand (n : Nat) (args : List Byte) (body : GroupId → State → Reply) : State → Reply :=
  expecting n args fun s =>
    match index? 4 (argByte args 0) with
    | none => s.refuse .badArgument
    | some g => body g s

end Sys2Proof.Machine
end

