-- ==== Sys2Proof/Machine/Calibration.lean ====
section
/-! DEFINITION. Calibration: REQUEST_CAL, SET_CAL_INTERVAL and CALIBRATION_COMPLETE (Chapter 6). -/

namespace Sys2Proof.Machine

/-- The caller joins the requester set; one already in it changes nothing (R118). -/
def State.requestCal (h : HostId) (s : State) : Reply :=
  if s.engine.requesters.get h then s.answer []
  else (State.arrival { s with engine := { s.engine with requesters := s.engine.requesters.put h true } }).answer []

/-- REQUEST_CAL (R118). -/
def execRequestCal (h : HostId) (args : List Byte) (s : State) : Host.Outcome State Fault Refusal :=
  .next (s.take h (.requestCal h args) (expecting 0 args (State.requestCal h)))

/-- The caller's interval request is set or withdrawn; a changed effective interval is an arrival (R116). -/
def State.setCalInterval (h : HostId) (n : Nat) (s : State) : Reply :=
  if 1 ≤ n ∧ n ≤ 255 then s.refuse .badArgument
  else
    let t := s.setRequest h (if n = 0 then none else some n)
    let u := if t.engine.effective = s.engine.effective then t else t.intervalArrival
    u.answer (bytesOf 2 t.engine.effective)

/-- SET_CAL_INTERVAL (R116). -/
def execSetCalInterval (h : HostId) (args : List Byte) (s : State) : Host.Outcome State Fault Refusal :=
  .next (s.take h (.setCalInterval h args) (expecting 2 args (State.setCalInterval h (argPair args 0))))

/-- The hosts that a passing calibration answers: those of the served set, and all three after the start-up calibration
(R120, R124). Whether the start-up calibration still answers a host torn down during it is open (R120 against R168,
log 15). -/
def Engine.answers (e : Engine) (h : HostId) : Bool :=
  e.served.get h || (e.cause == .startup && (!e.tornDown.get h || Config.startupReportsTornDown))

/-- CAL_DONE to each host that the calibration answers (R120). -/
def State.reportCalDone (s : State) : State :=
  let e := s.engine
  HostId.all.foldl (fun t h =>
    if e.answers h then t.emit h none none (.calDone e.cause e.startCount e.failures) else t) s

/-- A calibration passes (R120). What cause and start count hold from here to the next calibration is a DESIGN CHOICE
(log 31). -/
def State.calPass (s : State) : State :=
  let reported := s.reportCalDone
  let t := if s.engine.calibratingInFault then reported.emitAll .converterRecovered else reported
  { t with engine := { s.engine with
      state := .idle, counter := 0, stale := false, failures := 0
      served := PerHost.same false, tornDown := PerHost.same false } }

/-- A calibration fails (R121). What cause and start count hold from here to the next calibration is a DESIGN CHOICE
(log 31). -/
def State.calFail (s : State) : State :=
  let e := s.engine
  let failures := min 3 (e.failures + 1)
  let reported := s.emitAll (.calFailed e.cause e.startCount failures)
  let t := if e.calibratingInFault = false ∧ failures = 3 then reported.emitAll .converterFault else reported
  { t with engine := { e with
      state := if failures = 3 then .fault else .idle
      counter := 0, stale := true, failures := failures
      served := PerHost.same false, requesters := PerHost.same false, tornDown := PerHost.same false } }

/-- The calibration in progress completes 150 µs after its start, and a free decision follows (R42, R119). -/
def State.calComplete (s : State) (result : CalResult) : State :=
  if s.engine.state = .calibrating ∧ reached s.timeBase s.engine.calFinish = true then
    match result with
    | .pass => s.calPass.freeDecision
    | .fail => s.calFail.freeDecision
  else s

/-- CALIBRATION_COMPLETE (R119). -/
def execCalibrationComplete (result : CalResult) (s : State) : Host.Outcome State Fault Refusal :=
  .next (s.live fun t => t.calComplete result)

end Sys2Proof.Machine
end

