-- ==== Sys2Proof/Machine/Claims.lean ====
section
/-! DEFINITION. The Excitation Controller's command CLAIM_EXC and its settle timer (Chapter 7). -/

namespace Sys2Proof.Machine

/-- The three levels a CLAIM_EXC response gives (R127, Table 12-4). -/
def State.claimImage (s : State) (h : HostId) : List Byte :=
  [byteOf (s.exc.standing.get h).rank, byteOf s.exc.output.rank, byteOf s.exc.settled.rank]

/-- The caller's standing claim is set; a claim that repeats the current one changes nothing (R127). -/
def State.claimExc (h : HostId) (l : Level) (s : State) : Reply :=
  if s.exc.standing.get h = l then s.answer (s.claimImage h)
  else
    let t := s.setStanding h l
    t.arrival.answer (t.claimImage h)

/-- CLAIM_EXC (R127). -/
def execClaimExc (h : HostId) (args : List Byte) (s : State) : Host.Outcome State Fault Refusal :=
  .next (s.take h (.claimExc h args) (expecting 1 args fun t =>
    match levelOf (argByte args 0) with
    | none => t.refuse .badArgument
    | some l => t.claimExc h l))

/-- The settled report: a settling job whose minimum is met enters RUNNING, and with the converter free the report is
an arrival (R9, R113, R132). -/
def State.settledReport (s : State) : State :=
  if s.engine.state = .settling then
    match s.engine.settlingJob with
    | none => s
    | some j => if s.settledFor j then s.run j else s
  else s.arrival

/-- The settling completes when its expiry has been reached (R132); an abandoned expiry has no effect (R133). What
the settle expiry holds with no target is a DESIGN CHOICE (log 31). -/
def State.settle (s : State) : State :=
  match s.exc.target with
  | none => s
  | some l =>
    if reached s.timeBase s.exc.expiry then
      State.settledReport { s with exc := { s.exc with settled := l, target := none } }
    else s

/-- SETTLE_EXPIRY (R132). -/
def execSettleExpiry (s : State) : Host.Outcome State Fault Refusal := .next (s.live State.settle)

end Sys2Proof.Machine
end

