-- ==== Sys2Proof/Machine/Jobs.lean ====
section
/-! DEFINITION. The job commands: CREATE_JOB, ARM_JOB, DISARM_JOB, START_JOB, ABORT_JOB, DELETE_JOB, JOB_STATUS
(Chapter 1; START_JOB in Chapter 4). -/

namespace Sys2Proof.Machine

/-- The lowest-numbered FREE job record. -/
def State.lowestFreeJob (s : State) : Option JobId := allJobs.find? fun j => (s.job j).state == .free

/-- CREATE_JOB is accepted on an own sequence and on a SHARED one of another host, never on an orphan (R3 check 3,
Table 5-3). -/
def Seq.usableBy (q : Seq) (h : HostId) : Bool := q.owner == some h || (q.owner.isSome && q.scope == .shared)

/-- The new record (R4). -/
def newJob (h : HostId) (a : JobArgs) : Job :=
  { Job.free with
    state := .idle, owner := h, seq := a.seq, cls := a.cls, priority := a.priority, source := a.source
    period := a.period, busy := a.busy, repeatMode := a.repeatMode, resume := a.resume, deadline := a.deadline
    late := a.late, overflow := a.overflow }

/-- The record is taken and its sequence gains a reference (R4, R103). -/
def State.create (s : State) (h : HostId) (a : JobArgs) (j : JobId) : State :=
  (s.setJob j (newJob h a)).setSeq a.seq
    { s.seqs.at a.seq with refCount := (s.seqs.at a.seq).refCount + 1 }

/-- Checks 2 to 4 of R3, then the creation. -/
def State.createJob (s : State) (h : HostId) (a : JobArgs) : Reply :=
  let q := s.seqs.at a.seq
  if q.defined = false then s.refuse .badArgument
  else if q.usableBy h = false then s.refuse .notOwner
  else match s.lowestFreeJob with
    | none => s.refuse .noSpace
    | some j => (s.create h a j).answer [byteOf j.val]

/-- CREATE_JOB (R3, R4). -/
def execCreateJob (h : HostId) (args : List Byte) (s : State) : Host.Outcome State Fault Refusal :=
  .next (s.take h (.createJob h args) (expecting 15 args fun t =>
    match jobArgs args with
    | none => t.refuse .badArgument
    | some a => t.createJob h a))

/-- An IDLE or DONE job becomes ARMED; COUNT loads its runs, PERIOD starts its timer (R5, R83). -/
def Job.arm (r : Job) (now : Time) : Job :=
  { r with
    state := .armed
    runsRemaining := match r.repeatMode with
      | .count n => n
      | .oneShot | .continuous => r.runsRemaining
    periodTimer := if r.source = .period then r.period.map (after now) else none }

/-- The state rule of ARM_JOB (R5). -/
def State.armJob (j : JobId) (s : State) : Reply :=
  match (s.job j).state with
  | .idle | .done => (s.setJob j ((s.job j).arm s.timeBase)).answer []
  | .free | .armed | .pending | .settling | .running | .preempted | .stopping => s.refuse .wrongState

/-- ARM_JOB (R5). -/
def execArmJob (h : HostId) (args : List Byte) (s : State) : Host.Outcome State Fault Refusal :=
  .next (s.take h (.armJob h args) (jobCommand h args State.armJob))

/-- The state rule of DISARM_JOB (R19). -/
def State.disarmJob (j : JobId) (s : State) : Reply :=
  let r := s.job j
  match r.state with
  | .armed | .done => (s.setJob j { r with state := .idle, periodTimer := none }).answer []
  | .pending =>
    let t := s.dequeue j
    (t.setJob j { t.job j with state := .idle, latch := none, deadlineTimer := none, periodTimer := none }).answer []
  | .settling | .running | .preempted | .stopping =>
    (s.setJob j { r with disarmPending := true, latch := none }).answer []
  | .free | .idle => s.refuse .wrongState

/-- DISARM_JOB (R19). -/
def execDisarmJob (h : HostId) (args : List Byte) (s : State) : Host.Outcome State Fault Refusal :=
  .next (s.take h (.disarmJob h args) (jobCommand h args State.disarmJob))

/-- The outcome byte of START_JOB (Tables 4-2, 12-5). An ignored trigger has none: IDLE and DONE refuse the
command. -/
def TriggerOutcome.payload : TriggerOutcome → List Byte
  | .queued => [0]
  | .latched => [1]
  | .missed => [2]
  | .ignored => []

/-- The state rule of START_JOB: a COMMAND trigger stamped with the moment the command is taken (R82). -/
def State.startJob (j : JobId) (s : State) : Reply :=
  match (s.job j).state with
  | .free | .idle | .done => s.refuse .wrongState
  | .armed | .pending | .settling | .running | .preempted | .stopping =>
    (s.takeTrigger j .command s.timeBase none).answer (s.job j).onTrigger.payload

/-- START_JOB (R82). -/
def execStartJob (h : HostId) (args : List Byte) (s : State) : Host.Outcome State Fault Refusal :=
  .next (s.take h (.startJob h args) (jobCommand h args State.startJob))

/-- JOB_ABORTED with the job's run number and missed count at this moment (R17). -/
def State.reportAbort (s : State) (j : JobId) : State :=
  s.emit (s.job j).owner (some j) none (.jobAborted (s.job j).runNumber (s.job j).missed)

/-- An aborted run leaves its job in IDLE when disarm pending is set, with the period timer stopped, and in ARMED
otherwise (R17, R18). -/
def Job.aborted (r : Job) : Job :=
  if r.disarmPending then { r with state := .idle, disarmPending := false, stopReason := none, periodTimer := none }
  else { r with state := .armed, stopReason := none }

/-- The aborted job comes to ARMED or IDLE, and the abort is reported (R17). -/
def State.endAborted (s : State) (j : JobId) : State := (s.setJob j (s.job j).aborted).reportAbort j

/-- The state rule of ABORT_JOB; the latch is discarded uncounted (R17). -/
def State.abortJob (j : JobId) (s : State) : Reply :=
  let cleared := s.setJob j { s.job j with latch := none }
  match (s.job j).state with
  | .pending =>
    let t := (cleared.dequeue j).cancelDeadline j
    ((t.setJob j { t.job j with state := .armed }).reportAbort j).answer []
  | .settling => ((((cleared.releaseRun j).releaseConverter).endAborted j).freeDecision).answer []
  | .preempted => ((((cleared.dequeue j).releaseRun j).endAborted j).arrival).answer []
  | .running =>
    (cleared.setJob j { cleared.job j with state := .stopping, stopReason := some .abort }).answer []
  | .stopping => (cleared.setJob j { cleared.job j with stopReason := some .abort }).answer []
  | .free | .idle | .armed | .done => s.refuse .wrongState

/-- ABORT_JOB (R17). -/
def execAbortJob (h : HostId) (args : List Byte) (s : State) : Host.Outcome State Fault Refusal :=
  .next (s.take h (.abortJob h args) (jobCommand h args State.abortJob))

/-- The state rule of DELETE_JOB (R20). -/
def State.deleteJob (j : JobId) (s : State) : Reply :=
  match (s.job j).state with
  | .idle | .done => (s.freeJob j).answer []
  | .free | .armed | .pending | .settling | .running | .preempted | .stopping => s.refuse .wrongState

/-- DELETE_JOB (R20). -/
def execDeleteJob (h : HostId) (args : List Byte) (s : State) : Host.Outcome State Fault Refusal :=
  .next (s.take h (.deleteJob h args) (jobCommand h args State.deleteJob))

/-- JOB_STATUS reports the record and changes no state of the part; the draw behind its open field is counted (R21,
log 14). -/
def State.jobStatus (j : JobId) (s : State) : Reply := s.drawn.answer ((s.job j).image j (s.openField 1))

/-- JOB_STATUS (R21). -/
def execJobStatus (h : HostId) (args : List Byte) (s : State) : Host.Outcome State Fault Refusal :=
  .next (s.take h (.jobStatus h args) (jobCommand h args State.jobStatus))

end Sys2Proof.Machine
end

