-- ==== Sys2Proof/Machine/Windows.lean ====
section
/-! DEFINITION. The Window Unit: SET_WINDOW, CLEAR_WINDOW and the classification of a sample (Chapter 9). -/

namespace Sys2Proof.Machine

/-- A START_JOB action names a job of the caller that is neither FREE nor torn down (R152 check 3). -/
def State.actionAllowed (s : State) (h : HostId) : WindowAction → Bool
  | .notify => true
  | .startJob j => !(s.job j).gone && (s.job j).owner == h

/-- The window is loaded and enabled, with last zone UNKNOWN (R152). -/
def State.loadWindow (s : State) (h : HostId) (a : WindowArgs) : State :=
  s.setWindow h a.window ⟨true, a.low, a.high, a.action, .unknown⟩

/-- SET_WINDOW (R152). -/
def execSetWindow (h : HostId) (args : List Byte) (s : State) : Host.Outcome State Fault Refusal :=
  .next (s.take h (.setWindow h args) fun t =>
    match windowArgs args with
    | none => t.refuse .badArgument
    | some a => if t.actionAllowed h a.action then (t.loadWindow h a).answer [] else t.refuse .badArgument)

/-- CLEAR_WINDOW disables an enabled window and changes nothing of a disabled one (R153). -/
def State.clearWindow (s : State) (h : HostId) (w : WindowId) : State :=
  if (s.window h w).enabled then s.setWindow h w Window.disabled else s

/-- CLEAR_WINDOW (R153). -/
def execClearWindow (h : HostId) (args : List Byte) (s : State) : Host.Outcome State Fault Refusal :=
  .next (s.take h (.clearWindow h args) (expecting 1 args fun t =>
    match index? 4 (argByte args 0) with
    | none => t.refuse .badArgument
    | some w => (t.clearWindow h w).answer []))

/-- The zone of a code against a window; a disabled window gives NONE (R154). -/
def Window.zoneOf (w : Window) (code : BitVec 12) : Zone :=
  if w.enabled = false then .none
  else if code < w.low then .below
  else if w.high < code then .above
  else .inside

/-- The zone of a sample of a host's job (R106, R154). -/
def State.zoneFor (s : State) (h : HostId) (ref : Option WindowId) (code : BitVec 12) : Zone :=
  match ref with
  | none => .none
  | some w => (s.window h w).zoneOf code

/-- The last zone that a zone leaves behind. -/
def LastZone.ofZone : Zone → LastZone
  | .none => .unknown
  | .inside => .inside
  | .below => .below
  | .above => .above

/-- A LIMIT record is due (Table 9-2). -/
def limitDue (last : LastZone) (zone : Zone) : Bool :=
  LastZone.ofZone zone != last && !(last == .unknown && zone == .inside)

/-- The sample enters BELOW or ABOVE (Table 9-2). -/
def entersLimit (last : LastZone) (zone : Zone) : Bool :=
  LastZone.ofZone zone != last && (zone == .below || zone == .above)

/-- The LIMIT record of a sample (R155). -/
def State.reportLimit (s : State) (j : JobId) (w : WindowId) (index : Nat) (channel : Channel) (code : BitVec 12)
    (zone : Zone) : State :=
  let r := s.job j
  let last := (s.window r.owner w).lastZone
  if limitDue last zone then
    s.emit r.owner (some j) r.fillFrame (.limit w index channel code zone last r.runNumber)
  else s

/-- The window event of a sample: it waits to be presented, and only a job whose source is WINDOW gets one (R85,
R156). -/
def State.windowEvent (s : State) (w : Window) (zone : Zone) : State :=
  match w.action with
  | .notify => s
  | .startJob k =>
    if entersLimit w.lastZone zone ∧ (s.job k).source = .window then
      { s with waiting := s.waiting ++ [⟨.window, k, .window, s.timeBase, none⟩] }
    else s

/-- The Window Unit's part of a completion: LIMIT record, window event, last zone; a sample with no enabled window
changes nothing (R154, R155, R156). -/
def State.judge (s : State) (j : JobId) (ref : Option WindowId) (index : Nat) (channel : Channel)
    (code : BitVec 12) : State :=
  match ref with
  | none => s
  | some w =>
    let h := (s.job j).owner
    let r := s.window h w
    if r.enabled then
      let zone := r.zoneOf code
      ((s.reportLimit j w index channel code zone).windowEvent r zone).setWindow h w
        { r with lastZone := LastZone.ofZone zone }
    else s

end Sys2Proof.Machine
end

