-- ==== Sys2Proof/Machine/Converter.lean ====
section
/-! DEFINITION. STEP_COMPLETE: the sample, the boundary, the run end and the STOPPING exit (R10, R13, R18, R111). -/

namespace Sys2Proof.Machine

/-- The window reference of a step of a job's sequence (R106). -/
def State.windowRef (s : State) (j : JobId) (index : Nat) : Option WindowId :=
  (s.seqOf j).steps[index]?.bind SeqStep.window

/-- The sample goes into the fill frame's slot numbered by next step (R55, R62). -/
def State.writeSample (s : State) (j : JobId) (p : StepInProgress) (code : BitVec 12) (stale : Bool) (zone : Zone) :
    State :=
  match (s.job j).fillFrame with
  | none => s
  | some f =>
    let r := s.frames.at f
    let x : Sample := ⟨true, (s.job j).nextStep, p.channel, p.gain, code, stale, zone⟩
    s.setFrame f { r with samples := r.samples.setIfInBounds (s.job j).nextStep x }

/-- The fill frame is finished (R65). -/
def Frame.finish (f : Frame) (r : Job) : Frame :=
  { f with
    state := .complete, missedCount := r.missed, preemptCount := r.preemptCount, deadlineMissed := r.deadlineMissed
    stalePresent := f.samples.toList.any fun x => x.valid && x.stale }

/-- The finished frame joins the tail of the owner's delivery queue, and RUN_COMPLETE is queued (R13 steps 1 to 3,
R65). -/
def State.deliver (s : State) (j : JobId) : State :=
  let r := s.job j
  match r.fillFrame with
  | none => s
  | some f =>
    let t := s.setFrame f ((s.frames.at f).finish r)
    let u := { t with delivery := t.delivery.put r.owner (t.delivery.get r.owner ++ [f]) }
    (u.emit r.owner (some j) (some f) (.runComplete r.runNumber)).setJob j { r with fillFrame := none }

/-- A run ends by completion of its last step, and the Dispatcher takes its next decision (R13, R112). -/
def State.completeRun (s : State) (j : JobId) : State :=
  ((((((s.deliver j).removeClaim j).cancelDeadline j).vacate j).endRun j).releaseConverter).freeDecision

/-- next step advances (R10 step 2). -/
def State.advance (s : State) (j : JobId) : State := s.setJob j { s.job j with nextStep := (s.job j).nextStep + 1 }

/-- The completion of a step of a job in RUNNING (R10). -/
def State.stepOfRun (s : State) (p : StepInProgress) (code : BitVec 12) (stale : Bool) : State :=
  let j := p.job
  let ref := s.windowRef j p.index
  let zone := s.zoneFor (s.job j).owner ref code
  let t := ((s.writeSample j p code stale zone).judge j ref p.index p.channel code).advance j
  if (t.job j).nextStep = (t.seqOf j).steps.length then t.completeRun j else t.boundaryDecision j

/-- The end of an aborted run whose last step has completed; a latch taken since is consumed at ARMED (R18). -/
def State.exitAborted (s : State) (j : JobId) : State :=
  let t := s.endAborted j
  match (t.job j).latch with
  | some stamp => if (t.job j).state = .armed then (t.enterPending j stamp none).expireAtOnce j else t
  | none => t

/-- What the stop reason makes of the run (R18). -/
def State.exitStopping (s : State) (j : JobId) : State :=
  match (s.job j).stopReason with
  | some .abort => s.exitAborted j
  | some .late => s.endRun j
  | some .teardown => s.freeJob j
  | none => s

/-- The completion of the last step of a job in STOPPING: nothing is written or classified (R18). -/
def State.stoppingExit (s : State) (j : JobId) : State :=
  (((s.releaseRun j).exitStopping j).releaseConverter).freeDecision

/-- The engine counts the step, and the Job Controller takes the completion by the job's state (R111). The stale mark
is the flag's value at this moment (R115). -/
def State.stepDone (s : State) (p : StepInProgress) (code : BitVec 12) : State :=
  let t := { s with engine := { s.engine with counter := countStep s.engine.counter, step := none } }
  match (s.job p.job).state with
  | .running => t.stepOfRun p code s.engine.stale
  | .stopping => t.stoppingExit p.job
  | .free | .idle | .armed | .pending | .settling | .preempted | .done => t

/-- The step in progress completes when its time has come (R109). -/
def State.stepComplete (s : State) (code : BitVec 12) : State :=
  match s.engine.step with
  | none => s
  | some p => if reached s.timeBase p.finish then s.stepDone p code else s

/-- STEP_COMPLETE (R111). -/
def execStepComplete (code : BitVec 12) (s : State) : Host.Outcome State Fault Refusal :=
  .next (s.live fun t => t.stepComplete code)

end Sys2Proof.Machine
end

