-- ==== Sys2Proof/Machine/EventReads.lean ====
section
/-! DEFINITION. READ_EVENTS (Chapter 10). -/

namespace Sys2Proof.Machine

/-- A queue after up to `n` records were read: the counter is cleared and ATTN_N follows (R164, R166). -/
def EventQueue.read (q : EventQueue) (n : Nat) : EventQueue := ⟨q.queue.drop n, 0, !(q.queue.drop n).isEmpty⟩

/-- Up to `n` of the oldest records and the loss counter leave for the response (R164). -/
def State.readEvents (h : HostId) (n : Nat) (s : State) : Reply :=
  let q := s.events.get h
  if n < 1 ∨ 7 < n then s.refuse .badArgument
  else if q.queue = [] ∧ q.loss = 0 then ⟨s, .empty, []⟩
  else
    Reply.mk { s with events := s.events.put h (q.read n) } .ok
      (eventsImage (q.queue.take n) (q.queue.drop n).length q.loss)

/-- READ_EVENTS (R164). -/
def execReadEvents (h : HostId) (args : List Byte) (s : State) : Host.Outcome State Fault Refusal :=
  .next (s.take h (.readEvents h args) (expecting 1 args (State.readEvents h (argByte args 0))))

end Sys2Proof.Machine
end

