-- ==== Sys2Proof/Machine/Expiries.lean ====
section
/-! DEFINITION. DEADLINE_EXPIRY and LEASE_EXPIRY (Sections 2.6 and 8.3). -/

namespace Sys2Proof.Machine

/-- A deadline expiry in PENDING. Only a run end that puts the job back in the queue causes a decision (R45, R46). -/
def State.lateInQueue (s : State) (j : JobId) : State :=
  let r := s.job j
  let t := s.latePending (fun u => u.expireAtOnce j) j
  if r.late = .drop ∧ r.reenters = true then t.entryArrival r.cls else t

/-- A late drop from SETTLING (R16, R46). -/
def State.dropSettling (s : State) (j : JobId) : State :=
  (((s.releaseRun j).releaseConverter).endRun j).freeDecision

/-- A late drop from PREEMPTED; the freed frame is an arrival (R16, R46). -/
def State.dropPreempted (s : State) (j : JobId) : State :=
  (((s.dequeue j).releaseRun j).endRun j).arrival

/-- A deadline expiry of a run that holds a frame: KEEP marks the run, DROP abandons it (R16, R45, R46). -/
def State.lateInHand (s : State) (j : JobId) (drop : State → State) : State :=
  let t := s.reportLate j
  match (s.job j).late with
  | .keep => t.setJob j { t.job j with deadlineMissed := true }
  | .drop => drop t

/-- A deadline expiry by job state; in STOPPING it changes nothing but uses the timer up (R16, R46). -/
def State.lateBy (s : State) (j : JobId) : State :=
  match (s.job j).state with
  | .pending => s.lateInQueue j
  | .settling => s.lateInHand j fun t => t.dropSettling j
  | .running => s.lateInHand j fun t => t.setJob j { t.job j with state := .stopping, stopReason := some .late }
  | .preempted => s.lateInHand j fun t => t.dropPreempted j
  | .stopping => s.cancelDeadline j
  | .free | .idle | .armed | .done => s

/-- The deadline timer of a job expires when its moment has come (R44). -/
def State.deadlineReached (s : State) (j : JobId) : State :=
  if expired s.timeBase (s.job j).deadlineTimer then s.lateBy j else s

/-- DEADLINE_EXPIRY (R46). -/
def execDeadlineExpiry (j : JobId) (s : State) : Host.Outcome State Fault Refusal :=
  .next (s.live fun t => t.deadlineReached j)

/-- The lease of a HELD group runs out: the group is FREE, its holder is told, and the change is an arrival (R142). -/
def State.leaseReached (s : State) (g : GroupId) : State :=
  let r := s.groups.at g
  if r.state = .held ∧ reached s.timeBase r.expiry = true then
    ((s.freeGroup g).emit r.host none none (.holdExpired g r.lease)).arrival
  else s

/-- LEASE_EXPIRY (R142). -/
def execLeaseExpiry (g : GroupId) (s : State) : Host.Outcome State Fault Refusal :=
  .next (s.live fun t => t.leaseReached g)

end Sys2Proof.Machine
end

