-- ==== Sys2Proof/Machine/Frames.lean ====
section
/-! DEFINITION. The Result Store's commands: FETCH_FRAME and FLUSH_FRAMES (Chapter 3). -/

namespace Sys2Proof.Machine

/-- The head frame goes into the response and back to the pool; with nothing to fetch the answer is EMPTY (R67). -/
def State.fetchFrame (h : HostId) (s : State) : Reply :=
  match s.delivery.get h with
  | [] => ⟨s, .empty, []⟩
  | f :: rest =>
    (State.arrival { (s.returnFrame h f) with delivery := s.delivery.put h rest }).answer ((s.frames.at f).image f)

/-- FETCH_FRAME (R67). -/
def execFetchFrame (h : HostId) (args : List Byte) (s : State) : Host.Outcome State Fault Refusal :=
  .next (s.take h (.fetchFrame h args) (expecting 0 args (State.fetchFrame h)))

/-- The whole delivery queue returns to the pool; freed frames are an arrival (R68). -/
def State.flushFrames (h : HostId) (s : State) : Reply :=
  match s.delivery.get h with
  | [] => s.answer [0]
  | f :: rest => ((s.flushDelivery h).arrival).answer [byteOf (f :: rest).length]

/-- FLUSH_FRAMES (R68). -/
def execFlushFrames (h : HostId) (args : List Byte) (s : State) : Host.Outcome State Fault Refusal :=
  .next (s.take h (.flushFrames h args) (expecting 0 args (State.flushFrames h)))

end Sys2Proof.Machine
end

