-- ==== Sys2Proof/Machine/Holds.lean ====
section
/-! DEFINITION. The Hold Manager's commands: ACQUIRE_HOLD, RENEW_HOLD, RELEASE_HOLD (Chapter 8). -/

namespace Sys2Proof.Machine

/-- A FREE group taken for a host: HELD at once, or PENDING when foreign occupants stand on it (R140). -/
def State.takeGroup (s : State) (h : HostId) (g : GroupId) (lease : Nat) : Reply :=
  if s.foreignOccupants g h = 0 then
    ⟨(s.holdNow g h lease).arrival, .ok, 0 :: bytesOf 4 (after s.timeBase (1000 * lease)).toNat⟩
  else
    ⟨(s.setGroup g { s.groups.at g with state := .pending, host := h, lease := lease, expiry := 0 }).arrival,
      .pending, [byteOf (s.foreignOccupants g h)]⟩

/-- The checks of R140 after the group's range. -/
def State.acquireHold (h : HostId) (lease : Nat) (g : GroupId) (s : State) : Reply :=
  let r := s.groups.at g
  if lease = 0 then s.refuse .badArgument
  else if r.state ≠ .free ∧ r.host = h then s.refuse .wrongState
  else if r.state ≠ .free then s.refuse .heldByOther
  else s.takeGroup h g lease

/-- ACQUIRE_HOLD (R140). -/
def execAcquireHold (h : HostId) (args : List Byte) (s : State) : Host.Outcome State Fault Refusal :=
  .next (s.take h (.acquireHold h args) (groupCommand 2 args (State.acquireHold h (argByte args 1))))

/-- The lease of a group HELD by the caller starts again (R143). -/
def State.renewHold (h : HostId) (g : GroupId) (s : State) : Reply :=
  let r := s.groups.at g
  if r.state = .held ∧ r.host = h then
    (s.setGroup g { r with expiry := after s.timeBase (1000 * r.lease) }).answer
      (bytesOf 4 (after s.timeBase (1000 * r.lease)).toNat)
  else s.refuse .wrongState

/-- RENEW_HOLD (R143). -/
def execRenewHold (h : HostId) (args : List Byte) (s : State) : Host.Outcome State Fault Refusal :=
  .next (s.take h (.renewHold h args) (groupCommand 1 args (State.renewHold h)))

/-- A group HELD by or PENDING for the caller becomes FREE (R144). -/
def State.releaseHold (h : HostId) (g : GroupId) (s : State) : Reply :=
  let r := s.groups.at g
  if r.state ≠ .free ∧ r.host = h then ((s.freeGroup g).arrival).answer [] else s.refuse .wrongState

/-- RELEASE_HOLD (R144). -/
def execReleaseHold (h : HostId) (args : List Byte) (s : State) : Host.Outcome State Fault Refusal :=
  .next (s.take h (.releaseHold h args) (groupCommand 1 args (State.releaseHold h)))

end Sys2Proof.Machine
end

