-- ==== Sys2Proof/Machine/Ports.lean ====
section
/-! DEFINITION. The Host Port Units: transactions, the response slot, NOP and STATUS (Chapter 11). -/

namespace Sys2Proof.Machine

/-- The NOT_READY frame's response (R174). -/
def Port.notReady (p : Port) : Response := ⟨.notReady, p.tagInHand, []⟩

/-- A transaction begins: the outgoing kind and image are fixed once (R170, R174, R176). -/
def Port.begin (p : Port) : Port :=
  let q := { p with transaction := .shifting, byteCount := 0, received := [], inBits := [], outBit := 0 }
  match p.readiness, p.slot with
  | .ready, some r => { q with outgoing := .slot, image := r.image }
  | _, _ => { q with outgoing := .notReady, image := p.notReady.image }

/-- CS_N falls. A port that is not IDLE, or held in reset, does not begin a transaction (R170, R177). -/
def State.beginTransaction (s : State) (h : HostId) : State :=
  if (s.port h).transaction = .idle then s.setPort h (s.port h).begin else s

/-- TRANSACTION_BEGIN. -/
def execTransactionBegin (h : HostId) (s : State) : Host.Outcome State Fault Refusal :=
  .next (s.live fun t => t.beginTransaction h)

/-- A complete transaction with outgoing kind SLOT: the response is delivered, then the frame is examined (R172). -/
def Port.examine (p : Port) (h : HostId) (now : Time) : Port :=
  let tag := frameTag p.received
  let q := { p with slot := none, readiness := .waiting, tagInHand := tag, endedAt := now, inHand := none }
  match checkFrame h p.received with
  | .badLength => { q with prepared := some ⟨.badLength, tag, []⟩ }
  | .badFrame => { q with prepared := some ⟨.badFrame, tag, []⟩ }
  | .unknownCommand => { q with prepared := some ⟨.unknownCommand, tag, []⟩ }
  | .command i => { q with prepared := none, inHand := some i }

/-- The byte of eight bits, the most significant first (R170). -/
def byteOfBits (bits : List Bool) : Byte := byteOf (bits.foldl (fun n b => 2 * n + bit b) 0)

/-- A whole byte has been shifted in: bytes beyond 64 are counted only as more than 63 and are ignored (R170, R171,
Table 11-1). -/
def Port.byteIn (p : Port) (b : Byte) : Port :=
  { p with
    inBits := [], byteCount := min frameBytes (p.byteCount + 1)
    received := if p.byteCount < frameBytes then p.received ++ [b] else p.received }

/-- A rising edge of SCK samples SDI; eight make a whole byte. With CS_N high and in LOCKED_OUT it has no effect (R170,
R177). -/
def Port.sckRise (p : Port) (sdi : Bool) : Port :=
  match p.transaction with
  | .idle | .lockedOut => p
  | .shifting =>
    let bits := p.inBits ++ [sdi]
    if bits.length < 8 then { p with inBits := bits } else p.byteIn (byteOfBits bits)

/-- A falling edge of SCK moves SDO on to the next outgoing bit; with CS_N high and in LOCKED_OUT it has no effect (R170,
R177). -/
def Port.sckFall (p : Port) : Port :=
  match p.transaction with
  | .idle | .lockedOut => p
  | .shifting => { p with outBit := p.outBit + 1 }

/-- The clocks of SCK in SPI mode 0, each a rise that samples SDI and then a fall (R170). -/
def Port.clocked (p : Port) (sdi : List Bool) : Port := sdi.foldl (fun q b => (q.sckRise b).sckFall) p

/-- The level on SDO, none while it is not driven: the outgoing image bit by bit, the most significant bit of each byte
first, and filler 0xFF after byte 63 (R170, R171, R186, R189). -/
def Port.sdo (p : Port) : Option Bool :=
  match p.transaction with
  | .idle | .lockedOut => none
  | .shifting => some ((p.image.getD (p.outBit / 8) 0xFF).getMsbD (p.outBit % 8))

/-- A transaction ends and is classified (R171, R175, R176); the rise on a LOCKED_OUT port ends none (R177). What the
discarded frame and the outgoing items hold until the next transaction is a DESIGN CHOICE (log 29). -/
def Port.finish (p : Port) (h : HostId) (now : Time) (sdi : List Bool) : Port :=
  match p.transaction with
  | .idle => p
  | .lockedOut => { p with transaction := .idle }
  | .shifting =>
    let q := { p.clocked sdi with transaction := .idle }
    if q.byteCount < frameBytes then q
    else match q.outgoing with
      | .notReady => q
      | .slot => q.examine h now

/-- TRANSACTION_END: the clocks of the transaction, then the rise of CS_N (R170, R171, log 18). -/
def execTransactionEnd (h : HostId) (sdi : List Bool) (s : State) : Host.Outcome State Fault Refusal :=
  .next (s.live fun t => t.setPort h ((t.port h).finish h t.timeBase sdi))

/-- The prepared response is placed in the slot, which becomes READY (R172, R173, R175, R176). What the tag in hand and the
end moment hold while READY is a DESIGN CHOICE (log 31). -/
def Port.place (p : Port) : Port :=
  match p.prepared with
  | none => p
  | some r => { p with slot := some r, readiness := .ready, prepared := none }

/-- RESPONSE_READY. -/
def execResponseReady (h : HostId) (s : State) : Host.Outcome State Fault Refusal :=
  .next (s.live fun t => t.setPort h (t.port h).place)

/-- The SDO line of a host: not driven with CS_N high, while the port is LOCKED_OUT and in reset (R177, R189). -/
def State.sdo (s : State) (h : HostId) : Option Bool := if s.inReset then none else (s.port h).sdo

/-- NOP is answered OK with no payload (R181). -/
def execNop (h : HostId) (args : List Byte) (s : State) : Host.Outcome State Fault Refusal :=
  .next (s.take h (.nop h args) (expecting 0 args fun t => t.answer []))

/-- STATUS gathers its payload and changes no state of the part; the draw behind its open fields is counted (R182,
log 14). -/
def execStatus (h : HostId) (args : List Byte) (s : State) : Host.Outcome State Fault Refusal :=
  .next (s.take h (.status h args) (expecting 0 args fun t => t.drawn.answer (t.statusImage h)))

end Sys2Proof.Machine
end

