-- ==== Sys2Proof/Machine/Reset.lean ====
section
/-! DEFINITION. Device reset: RESET_N_ASSERT and RESET_N_RELEASE. -/

namespace Sys2Proof.Machine

/-- Every block returns to its initial state; what was in progress is lost without report. The allowances, and the
ALLOC value behind them, stay until the next release (R22, R57, R110, R177, log 6). -/
def State.asserted (s : State) : State :=
  { State.reset with pending := s.pending, draws := s.draws, alloc := s.alloc, allowance := s.allowance }

/-- RESET_N_ASSERT. -/
def execResetNAssert (s : State) : Host.Outcome State Fault Refusal := .next s.asserted

/-- The allowances set by ALLOC[1:0] (Table 3-3). -/
def allowancesOf (alloc : BitVec 2) : PerHost Nat :=
  match alloc.toNat with
  | 0 => ⟨16, 16, 16⟩
  | 1 => ⟨24, 12, 12⟩
  | 2 => ⟨12, 24, 12⟩
  | _ => ⟨12, 12, 24⟩

/-- A port at release: STARTUP with tag 0, READY; LOCKED_OUT when CS_N is low (R174, R177). -/
def releasedPort (csLow : Bool) : Port :=
  { Port.reset with
    transaction := if csLow then .lockedOut else .idle
    slot := some ⟨.startup, 0, []⟩
    readiness := .ready }

/-- One DEVICE_RESET record with timestamp 0 (R162, R169). -/
def releasedEvents (alloc : BitVec 2) (h : HostId) : EventQueue :=
  EventQueue.reset.push ⟨0, none, none, .deviceReset h alloc ((allowancesOf alloc).get h)⟩

/-- The part right after the release of RESET_N (R57, R78, R92, R124, R137, R169, R177). -/
def releasedState (alloc : BitVec 2) (levels : LineLevels) (csLow : PerHost Bool) : State :=
  { State.reset with
    inReset := false
    alloc := alloc
    allowance := allowancesOf alloc
    levels := levels
    ports := ⟨releasedPort csLow.h0, releasedPort csLow.h1, releasedPort csLow.h2⟩
    events := ⟨releasedEvents alloc .h0, releasedEvents alloc .h1, releasedEvents alloc .h2⟩
    engine := { Engine.reset with state := .calibrating } }

/-- RESET_N rises. When it is high already there is no release (log 2). -/
def State.release (s : State) (alloc : BitVec 2) (levels : LineLevels) (csLow : PerHost Bool) : State :=
  if s.inReset then { releasedState alloc levels csLow with pending := s.pending, draws := s.draws } else s

/-- RESET_N_RELEASE. -/
def execResetNRelease (alloc : BitVec 2) (levels : LineLevels) (csLow : PerHost Bool) (s : State) :
    Host.Outcome State Fault Refusal := .next (s.release alloc levels csLow)

end Sys2Proof.Machine
end

