-- ==== Sys2Proof/Machine/Sequences.lean ====
section
/-! DEFINITION. The Sequence Store's commands: DEFINE_SEQ, DELETE_SEQ, READ_SEQ (Chapter 5). -/

namespace Sys2Proof.Machine

/-- The lowest-numbered FREE sequence record. -/
def State.lowestFreeSeq (s : State) : Option SeqId := allSeqs.find? fun k => !(s.seqs.at k).defined

/-- A definition is written: entries return from the old step list and are taken for the new one (R98, R99, R100). -/
def State.define (s : State) (h : HostId) (k : SeqId) (a : SeqArgs) : State :=
  { (s.setSeq k ⟨true, some h, a.scope, a.minimum, a.steps, 0⟩) with
    freeSteps := s.freeSteps + (s.seqs.at k).steps.length - a.steps.length }

/-- The pool check, then the definition (R99 check 3). A FREE record holds no entries, so both cases read alike. -/
def State.defineAt (s : State) (h : HostId) (a : SeqArgs) (k : SeqId) : Reply :=
  if s.freeSteps + (s.seqs.at k).steps.length < a.steps.length then s.refuse .noSpace
  else (s.define h k a).answer [byteOf k.val]

/-- The target check (R99 check 2). -/
def State.defineSeq (s : State) (h : HostId) (a : SeqArgs) : Reply :=
  match a.target with
  | .anyFree =>
    match s.lowestFreeSeq with
    | none => s.refuse .noSpace
    | some k => s.defineAt h a k
  | .index k =>
    let r := s.seqs.at k
    if r.defined = false then s.defineAt h a k
    else if r.owner ≠ some h then s.refuse .notOwner
    else if 0 < r.refCount then s.refuse .inUse
    else s.defineAt h a k

/-- DEFINE_SEQ (R99, R100). -/
def execDefineSeq (h : HostId) (args : List Byte) (s : State) : Host.Outcome State Fault Refusal :=
  .next (s.take h (.defineSeq h args) fun t =>
    match seqArgs args with
    | none => t.refuse .badArgument
    | some a => t.defineSeq h a)

/-- A command that names a DEFINED sequence record. -/
def seqCommand (args : List Byte) (body : SeqId → State → Reply) : State → Reply :=
  expecting 1 args fun s =>
    match index? 32 (argByte args 0) with
    | none => s.refuse .badArgument
    | some k => if (s.seqs.at k).defined then body k s else s.refuse .badArgument

/-- The checks and effect of DELETE_SEQ on a DEFINED record (R101). -/
def State.deleteSeq (h : HostId) (k : SeqId) (s : State) : Reply :=
  let r := s.seqs.at k
  if r.owner ≠ some h then s.refuse .notOwner
  else if 0 < r.refCount then s.refuse .inUse
  else (s.freeSeq k).answer []

/-- DELETE_SEQ (R101). -/
def execDeleteSeq (h : HostId) (args : List Byte) (s : State) : Host.Outcome State Fault Refusal :=
  .next (s.take h (.deleteSeq h args) (seqCommand args (State.deleteSeq h)))

/-- READ_SEQ is accepted on an own record and on a SHARED one (Table 5-3). -/
def State.readSeq (h : HostId) (k : SeqId) (s : State) : Reply :=
  let r := s.seqs.at k
  if r.owner = some h ∨ r.scope = .shared then s.answer (r.image k) else s.refuse .notOwner

/-- READ_SEQ (R102). -/
def execReadSeq (h : HostId) (args : List Byte) (s : State) : Host.Outcome State Fault Refusal :=
  .next (s.take h (.readSeq h args) (seqCommand args (State.readSeq h)))

end Sys2Proof.Machine
end

