-- ==== Sys2Proof/Machine/Teardown.lean ====
section
/-! DEFINITION. HOST_RESET: the teardown of one host, block by block (Section 11.6). -/

namespace Sys2Proof.Machine

/-- One job of the torn-down host (R23, R51, R91). -/
def State.tearJob (s : State) (j : JobId) : State :=
  let r := s.job j
  match r.state with
  | .free => s
  | .running | .stopping =>
    s.setJob j { r with state := .stopping, stopReason := some .teardown, periodTimer := none, deadlineTimer := none }
  | .settling => ((s.releaseRun j).releaseConverter).freeJob j
  | .preempted => ((s.dequeue j).releaseRun j).freeJob j
  | .idle | .armed | .pending | .done => (s.dequeue j).freeJob j

/-- A job that gives a frame back at teardown (R72). -/
def Job.holdsFrameAtRest (r : Job) : Bool := r.state == .settling || r.state == .preempted

/-- The Job Controller's part. The order in which several frame-holding jobs go is open (R23, log 12). -/
def State.tearJobs (s : State) (h : HostId) : State :=
  let mine := allJobs.filter fun j => (s.job j).owner == h
  let holders := mine.filter fun j => (s.job j).holdsFrameAtRest
  let others := mine.filter fun j => !(s.job j).holdsFrameAtRest
  (s.openOrder (fun j => j.val) holders ++ others).foldl State.tearJob (s.drawnFor holders)

/-- The Sequence Store's part for one record (R105). -/
def State.tearSeq (h : HostId) (s : State) (k : SeqId) : State :=
  let r := s.seqs.at k
  if r.defined = true ∧ r.owner = some h then
    if r.refCount = 0 then s.freeSeq k else s.setSeq k { r with owner := none }
  else s

/-- The Hold Manager's part for one group (R149). -/
def State.tearGroup (h : HostId) (s : State) (g : GroupId) : State :=
  if (s.groups.at g).state ≠ .free ∧ (s.groups.at g).host = h then s.freeGroup g else s

/-- The start-up calibration is in progress (R124). -/
def Engine.startingUp (e : Engine) : Bool := e.state == .calibrating && e.cause == .startup

/-- The Conversion Engine's part; a teardown during the start-up calibration is noted (R125, R168, log 15). -/
def State.tearEngine (s : State) (h : HostId) : State :=
  let t := s.setRequest h none
  let e := t.engine
  { t with engine := { e with
      requesters := e.requesters.put h false, served := e.served.put h false
      tornDown := if e.startingUp then e.tornDown.put h true else e.tornDown } }

/-- The windows and the event queue of the host (R159, R168). -/
def State.tearRecords (s : State) (h : HostId) : State :=
  { s with
    windows := s.windows.put h (Vector.replicate 4 Window.disabled)
    events := s.events.put h EventQueue.reset }

/-- The parts of every block but the Dispatcher's decision, the Job Controller's first (R183). -/
def State.teardown (s : State) (h : HostId) : State :=
  let jobs := s.tearJobs h
  let seqs := allSeqs.foldl (State.tearSeq h) jobs
  let claims := (seqs.tearEngine h).setStanding h .off
  let store := claims.flushDelivery h
  (allGroups.foldl (State.tearGroup h) store).tearRecords h

/-- What a teardown released is an arrival of R30: a frame, a claim, a hold or the converter. -/
def State.releasedSince (before t : State) : Bool :=
  decide (before.pool.length < t.pool.length) || decide (before.exc ≠ t.exc) ||
  decide (before.groups.map Group.state ≠ t.groups.map Group.state) ||
  decide (before.engine.state ≠ t.engine.state)

/-- What a teardown has changed reaches the Dispatcher once: a changed effective interval, which may displace another
host's settling ROUTINE job (R39, R41, R116), or what it released (R30, R51, log 8). -/
def State.tornArrival (before t : State) : State :=
  if t.engine.effective ≠ before.engine.effective then t.intervalArrival
  else if before.releasedSince t then t.arrival
  else t

/-- The whole command: teardown, then what it causes at the Dispatcher (R51, R183). -/
def State.hostReset (h : HostId) (s : State) : Reply := (s.tornArrival (s.teardown h)).answer []

/-- HOST_RESET (R183). -/
def execHostReset (h : HostId) (args : List Byte) (s : State) : Host.Outcome State Fault Refusal :=
  .next (s.take h (.hostReset h args) (expecting 0 args (State.hostReset h)))

end Sys2Proof.Machine
end

