-- ==== Sys2Proof/Machine/Triggers.lean ====
section
/-! DEFINITION. The Trigger Unit: edges, period expiries and presentations (Chapter 4). -/

namespace Sys2Proof.Machine

/-- The level at which a detector last saw its line (R78). -/
def lineHigh (l : LineLevels) : Line → Bool
  | .trig h => l.trig.get h
  | .xt n => l.xt.at n

/-- The detectors with one line's last-seen level replaced (R78). -/
def setLine (l : LineLevels) (line : Line) (high : Bool) : LineLevels :=
  match line with
  | .trig h => { l with trig := l.trig.put h high }
  | .xt n => { l with xt := l.xt.put n high }

/-- The jobs an edge is delivered to, ascending (R79, R80). -/
def State.edgeJobs (s : State) (line : Line) : List JobId :=
  allJobs.filter fun j =>
    let r := s.job j
    r.state != .free && match line with
      | .trig h => r.source == .hostLine && r.owner == h
      | .xt n => r.source == .xt n

/-- The source of an edge's triggers (R79, R80). -/
def lineSource : Line → TriggerSource
  | .trig _ => .hostLine
  | .xt n => .xt n

/-- The edge mark of an XT edge delivered to two or more jobs (R77, R80). -/
def edgeMark (line : Line) (now : Time) (jobs : List JobId) : Option EdgeMark :=
  match line with
  | .trig _ => none
  | .xt n => if 2 ≤ jobs.length then some ⟨n, now⟩ else none

/-- A detector that has seen its line low sees it high: the edge is recognised and its presentations are fixed (R78,
R79, R80). -/
def State.risingEdge (s : State) (line : Line) : State :=
  if lineHigh s.levels line then s
  else
    let jobs := s.edgeJobs line
    let mark := edgeMark line s.timeBase jobs
    { s with
      levels := setLine s.levels line true
      waiting := s.waiting ++ jobs.map fun j => ⟨.line line, j, lineSource line, s.timeBase, mark⟩ }

/-- TRIG_EDGE (R79). -/
def execTrigEdge (h : HostId) (s : State) : Host.Outcome State Fault Refusal :=
  .next (s.live fun t => t.risingEdge (.trig h))

/-- XT_EDGE (R80). -/
def execXtEdge (n : XtLine) (s : State) : Host.Outcome State Fault Refusal :=
  .next (s.live fun t => t.risingEdge (.xt n))

/-- TRIGGER_LINE_FALLING_EDGE: the detector's level becomes low and no trigger arises (R78). -/
def execTriggerLineFallingEdge (line : Line) (s : State) : Host.Outcome State Fault Refusal :=
  .next (s.live fun t => { t with levels := setLine t.levels line false })

/-- Further presentations of the same edge wait (R79, R80). A window event has one presentation (R85). -/
def State.edgeGoesOn (s : State) (p : Presentation) : Bool :=
  p.origin != .window && s.waiting.any fun q => q.origin == p.origin && q.stamp == p.stamp

/-- The queue entry that a presentation made reaches the Dispatcher. With the converter free and further presentations
of the edge waiting, a free value says whether the free decision is taken now or is still due when the next of them is
taken (R81, log 30). -/
def State.edgeEntry (s : State) (p : Presentation) (cls : JobClass) : State :=
  if s.engine.free && s.edgeGoesOn p then
    if Config.decisionWaits s.draws then { s.drawn with decisionDue := true } else s.drawn.freeDecision
  else s.entryArrival cls

/-- The free decision still due is taken once the last presentation of the edge has been (R81). -/
def State.settleDecision (s : State) (p : Presentation) : State :=
  if s.decisionDue && !s.edgeGoesOn p then s.freeDecision else s

/-- The oldest waiting presentation of an origin is taken by its job (R81, R85, R86, log 7). A presentation fixed before
an ARM_JOB and taken after it starts a run, as R81 and R90 say of a trigger taken after the arming, against R86's words
on triggers raised before it: the model's choice (log 27). -/
def State.present (s : State) (o : Origin) : State :=
  match s.waiting.find? fun p => p.origin == o with
  | none => s
  | some p =>
    let t := { s with waiting := s.waiting.erase p }
    (State.takeTriggerThen (fun u => u.edgeEntry p (s.job p.job).cls) t p.job p.source p.stamp p.mark).settleDecision p

/-- TRIGGER_PRESENTED (R86). -/
def execTriggerPresented (o : Origin) (s : State) : Host.Outcome State Fault Refusal :=
  .next (s.live fun t => t.present o)

/-- A period expiry: the next expiry of the grid is set, and a trigger stamped with the expiry value is taken (R77,
R83). -/
def State.periodTrigger (s : State) (j : JobId) : State :=
  match (s.job j).periodTimer with
  | none => s
  | some e =>
    if reached s.timeBase e then
      (s.setJob j { s.job j with periodTimer := (s.job j).period.map (after e) }).takeTrigger j .period e none
    else s

/-- PERIOD_EXPIRY (R83). -/
def execPeriodExpiry (j : JobId) (s : State) : Host.Outcome State Fault Refusal :=
  .next (s.live fun t => t.periodTrigger j)

end Sys2Proof.Machine
end

