-- ==== Sys2Proof/Machine/Dispatch.lean ====
section
/-! DEFINITION. One arm for each command: its meaning. -/

namespace Sys2Proof.Machine

def exec (i : Instr) (s : State) : Host.Outcome State Fault Refusal :=
  match i with
  | .resetNAssert => Sys2Proof.Machine.execResetNAssert s
  | .resetNRelease alloc levels csLow => Sys2Proof.Machine.execResetNRelease alloc levels csLow s
  | .transactionBegin h => Sys2Proof.Machine.execTransactionBegin h s
  | .transactionEnd h sdi => Sys2Proof.Machine.execTransactionEnd h sdi s
  | .responseReady h => Sys2Proof.Machine.execResponseReady h s
  | .nop h args => Sys2Proof.Machine.execNop h args s
  | .status h args => Sys2Proof.Machine.execStatus h args s
  | .defineSeq h args => Sys2Proof.Machine.execDefineSeq h args s
  | .deleteSeq h args => Sys2Proof.Machine.execDeleteSeq h args s
  | .readSeq h args => Sys2Proof.Machine.execReadSeq h args s
  | .createJob h args => Sys2Proof.Machine.execCreateJob h args s
  | .armJob h args => Sys2Proof.Machine.execArmJob h args s
  | .disarmJob h args => Sys2Proof.Machine.execDisarmJob h args s
  | .startJob h args => Sys2Proof.Machine.execStartJob h args s
  | .abortJob h args => Sys2Proof.Machine.execAbortJob h args s
  | .deleteJob h args => Sys2Proof.Machine.execDeleteJob h args s
  | .jobStatus h args => Sys2Proof.Machine.execJobStatus h args s
  | .fetchFrame h args => Sys2Proof.Machine.execFetchFrame h args s
  | .flushFrames h args => Sys2Proof.Machine.execFlushFrames h args s
  | .setWindow h args => Sys2Proof.Machine.execSetWindow h args s
  | .clearWindow h args => Sys2Proof.Machine.execClearWindow h args s
  | .acquireHold h args => Sys2Proof.Machine.execAcquireHold h args s
  | .renewHold h args => Sys2Proof.Machine.execRenewHold h args s
  | .releaseHold h args => Sys2Proof.Machine.execReleaseHold h args s
  | .claimExc h args => Sys2Proof.Machine.execClaimExc h args s
  | .requestCal h args => Sys2Proof.Machine.execRequestCal h args s
  | .setCalInterval h args => Sys2Proof.Machine.execSetCalInterval h args s
  | .readEvents h args => Sys2Proof.Machine.execReadEvents h args s
  | .hostReset h args => Sys2Proof.Machine.execHostReset h args s
  | .trigEdge h => Sys2Proof.Machine.execTrigEdge h s
  | .xtEdge n => Sys2Proof.Machine.execXtEdge n s
  | .periodExpiry j => Sys2Proof.Machine.execPeriodExpiry j s
  | .triggerPresented o => Sys2Proof.Machine.execTriggerPresented o s
  | .stepComplete code => Sys2Proof.Machine.execStepComplete code s
  | .calibrationComplete result => Sys2Proof.Machine.execCalibrationComplete result s
  | .settleExpiry => Sys2Proof.Machine.execSettleExpiry s
  | .deadlineExpiry j => Sys2Proof.Machine.execDeadlineExpiry j s
  | .leaseExpiry g => Sys2Proof.Machine.execLeaseExpiry g s
  | .triggerLineFallingEdge l => Sys2Proof.Machine.execTriggerLineFallingEdge l s

end Sys2Proof.Machine
end

