-- ==== Sys2Proof/Machine/Idle.lean ====
section
/-! DEFINITION. What the part does when no command waits (log 1): an arrival of its own that is due is taken before the
Time Base advances; arrivals that may come at any moment may come now; and where several may, a free value chooses. -/

namespace Sys2Proof.Machine

/-- The completion of the step or calibration in progress, when due; its analog result is a free value. -/
def State.dueCompletion (s : State) : List Instr :=
  (match s.engine.step with
    | some p => if reached s.timeBase p.finish then [.stepComplete (Config.converterCode s.draws)] else []
    | none => []) ++
  (if s.engine.state = .calibrating ∧ reached s.timeBase s.engine.calFinish = true then
    [.calibrationComplete (if Config.calibrationPasses s.draws then .pass else .fail)] else [])

/-- The timers that are due (Table 4-1). -/
def State.dueTimers (s : State) : List Instr :=
  (if s.exc.target.isSome && reached s.timeBase s.exc.expiry then [.settleExpiry] else []) ++
  (allJobs.filter fun j => expired s.timeBase (s.job j).deadlineTimer).map .deadlineExpiry ++
  (allJobs.filter fun j => expired s.timeBase (s.job j).periodTimer).map .periodExpiry ++
  (allGroups.filter fun g => (s.groups.at g).state == .held && reached s.timeBase (s.groups.at g).expiry).map .leaseExpiry

/-- A port's next arrival while a command or response is in preparation (R173). -/
def Port.nextArrival (p : Port) (h : HostId) : Option Instr :=
  match p.inHand, p.prepared with
  | some i, _ => some i
  | none, some _ => some (.responseReady h)
  | none, none => none

/-- The ports' arrivals whose 2 µs have passed (`late`), or have not (R172, R173). -/
def State.portArrivals (s : State) (late : Bool) : List Instr :=
  HostId.all.filterMap fun h =>
    if decide (2 ≤ age s.timeBase (s.port h).endedAt) = late then (s.port h).nextArrival h else none

/-- The origins with a presentation waiting, each once. -/
def State.waitingOrigins (s : State) : List Instr :=
  (s.waiting.map Presentation.origin).dedup.map .triggerPresented

/-- The arrivals that must be taken before the Time Base advances. -/
def State.mustArrive (s : State) : List Instr := s.dueCompletion ++ s.dueTimers ++ s.portArrivals true

/-- The arrivals that may be taken now or later. -/
def State.mayArrive (s : State) : List Instr := s.portArrivals false ++ s.waitingOrigins

/-- What the part may do when no command waits. -/
inductive IdleAct where
  | arrival (i : Instr) | decision | tick
deriving DecidableEq, Repr

/-- What must be done before the Time Base advances: the arrivals that are due, and the free decision that is (R81). -/
def State.mustAct (s : State) : List IdleAct :=
  s.mustArrive.map .arrival ++ if s.decisionDue then [.decision] else []

/-- What may be done now: with nothing that must be, a microsecond may pass; in reset nothing happens (R75). -/
def State.idleActs (s : State) : List IdleAct :=
  if s.inReset then []
  else match s.mustAct with
    | [] => s.mayArrive.map .arrival ++ [.tick]
    | a :: must => a :: must ++ s.mayArrive.map .arrival

/-- What is done: where several things may be, a free value chooses (log 1). -/
def State.idleAct (s : State) : Option IdleAct := s.idleActs[Config.arrivalChoice s.draws % s.idleActs.length]?

/-- The draw is counted when several things could be done. -/
def State.afterChoice (s : State) : State := s.drawnFor s.idleActs

/-- One microsecond passes (R75). -/
def State.tick (s : State) : State := { s with timeBase := s.timeBase + 1 }

end Sys2Proof.Machine
end

