-- ==== Sys2Proof/Safety.lean ====
section
/-! DEFINITION. What holds of the AQ340 between any two steps, in the specification's own terms. Each predicate gathers
what the rules say of one block's state at all times. The statements about every step name these predicates, so that
they speak of no state that the rules exclude. -/

namespace Sys2Proof.Machine

/-! ### What a host sends and sees -/

/-- The part works and the port of a host has passed this command on, and no block has taken it yet (R173). -/
def State.Offered (s : State) (h : HostId) (i : Instr) : Prop :=
  s.inReset = false ∧ (s.port h).inHand = some i

/-- A job command of this host naming this job passes the checks of R2: the record is not FREE, not torn down, and the
host's own. -/
def State.Commandable (s : State) (h : HostId) (j : JobId) : Prop :=
  (s.job j).state ≠ .free ∧ ¬((s.job j).state = .stopping ∧ (s.job j).stopReason = some .teardown) ∧
  (s.job j).owner = h

/-- The argument length that Table 12-4 gives a host command. -/
def expectedLength : Instr → Nat
  | .defineSeq _ a => 4 + 2 * (a.getD 3 0).toNat
  | .setWindow _ a => if a.getD 5 0 = 1 then 7 else 6
  | .createJob _ _ => 15
  | .acquireHold _ _ | .setCalInterval _ _ => 2
  | .deleteSeq _ _ | .readSeq _ _ | .armJob _ _ | .disarmJob _ _ | .startJob _ _ | .abortJob _ _ | .deleteJob _ _
  | .jobStatus _ _ | .clearWindow _ _ | .renewHold _ _ | .releaseHold _ _ | .claimExc _ _ | .readEvents _ _ => 1
  | .nop _ _ | .status _ _ | .fetchFrame _ _ | .flushFrames _ _ | .requestCal _ _ | .hostReset _ _ => 0
  | .resetNAssert | .resetNRelease _ _ _ | .transactionBegin _ | .transactionEnd _ _ | .responseReady _
  | .trigEdge _ | .xtEdge _ | .periodExpiry _ | .triggerPresented _ | .stepComplete _ | .calibrationComplete _
  | .settleExpiry | .deadlineExpiry _ | .leaseExpiry _ | .triggerLineFallingEdge _ => 0

/-- The argument bytes of DEFINE_SEQ (Tables 12-4, 12-6). -/
def SeqArgs.bytes (a : SeqArgs) : List Byte :=
  [match a.target with
    | .anyFree => 0xFF
    | .index k => byteOf k.val,
   byteOf a.scope.code, byteOf a.minimum.rank, byteOf a.steps.length] ++ (a.steps.map SeqStep.image).flatten

/-- The argument bytes of CREATE_JOB (Table 12-4). -/
def JobArgs.bytes (a : JobArgs) : List Byte :=
  [byteOf a.seq.val, byteOf a.cls.code, byteOf a.priority.val, byteOf a.source.code] ++
  bytesOf 3 (a.period.getD 0) ++
  [byteOf a.busy.code, byteOf a.repeatMode.code, byteOf a.repeatMode.countByte, byteOf a.resume.code] ++
  bytesOf 2 (a.deadline.getD 0) ++ [byteOf a.late.code, byteOf a.overflow.code]

/-- The ranges of CREATE_JOB's numbers (R3 check 1, Table 1-1): a period for source PERIOD alone. -/
def JobArgs.InRange (a : JobArgs) : Prop :=
  (a.period.isSome = true ↔ a.source = .period) ∧
  (∀ p, a.period = some p → 20 ≤ p ∧ p ≤ 1048575) ∧
  (∀ d, a.deadline = some d → 1 ≤ d ∧ d ≤ 65535) ∧
  (∀ n, a.repeatMode = .count n → 1 ≤ n ∧ n ≤ 255)

/-- The number carried by `n` bytes of a payload from byte `i` on, most significant first (R186). -/
def numberAt (payload : List Byte) (i n : Nat) : Nat :=
  ((payload.drop i).take n).foldl (fun acc b => acc * 256 + b.toNat) 0

/-! ### Host ports -/

/-- The byte that eight levels of SDI make, from the `i`th eight: the first of them is bit 7 (R170). -/
def sampledByte (sdi : List Bool) (i : Nat) : Byte :=
  BitVec.ofNat 8 ((List.range 8).map fun k => if sdi.getD (8 * i + k) false then 2 ^ (7 - k) else 0).sum

/-- The whole bytes among levels of SDI, in their order (R170, R171). -/
def sampledBytes (sdi : List Bool) : List Byte := (List.range (sdi.length / 8)).map (sampledByte sdi)

/-- A port right after CS_N fell: nothing is shifted in and nothing is shifted out (R170). -/
def Port.Fresh (p : Port) : Prop := p.byteCount = 0 ∧ p.received = [] ∧ p.inBits = [] ∧ p.outBit = 0

/-- What a port has in hand is a command of its own host (R172, R173, R179). -/
def State.HandsSound (s : State) : Prop :=
  ∀ (h : HostId) (i : Instr), (s.port h).inHand = some i → i.caller = some h

/-- The response slot of a port after the release: READY exactly while the slot holds a response, with nothing in
preparation then; WAITING with exactly one of a command in hand and a prepared response; and READY in a transaction that
shifts out the slot (R170, R172, R173, R175, R176, R177). -/
def Port.SlotSound (p : Port) : Prop :=
  (p.readiness = .ready ↔ p.slot.isSome = true) ∧
  (p.readiness = .ready → p.inHand = none ∧ p.prepared = none) ∧
  (p.readiness = .waiting → p.inHand.isSome ≠ p.prepared.isSome) ∧
  (p.transaction = .shifting → p.outgoing = .slot → p.readiness = .ready)

/-- A port in SHIFTING has just begun, since the clocks of a transaction come with its end (log 18); the ports have
their own hosts' commands in hand; and outside reset each response slot is sound. -/
def State.PortsSound (s : State) : Prop :=
  (∀ h : HostId, (s.port h).transaction = .shifting → (s.port h).Fresh) ∧ s.HandsSound ∧
  (s.inReset = false → ∀ h : HostId, (s.port h).SlotSound)

/-! ### Event Unit -/

/-- At most 16 records, a loss counter of at most 255, and ATTN_N asserted exactly while a record waits or the counter
is not 0 (R160, R163, R166). -/
def EventQueue.Sound (q : EventQueue) : Prop :=
  q.queue.length ≤ 16 ∧ q.loss ≤ 255 ∧ q.attention = q.calls

/-- Every host's event queue is sound. -/
def State.EventsSound (s : State) : Prop := ∀ h : HostId, (s.events.get h).Sound

/-- The kind code and the detail bytes of a record other than LIMIT, row by row of Table 12-10; none for LIMIT. -/
def Event.tableRow (e : Event) : Option (Byte × List Byte) :=
  let n := fun k => BitVec.ofNat 8 k
  let job := (e.job.map fun j => n j.val).getD 0xFF
  let frame := (e.frame.map fun f => n f.val).getD 0xFF
  let run := fun r : BitVec 16 => n r.toNat
  let calibration := fun (cause : CalCause) (count start : Nat) =>
    [n (cause.code + 4 * (count % 4)), n (start / 65536), n (start / 256), n start]
  match e.body with
  | .deviceReset h alloc allowance => some (0x01, [n (hostCode h), n alloc.toNat, n allowance, 0, 0])
  | .runComplete r => some (0x02, [job, frame, run r, 0, 0])
  | .jobDone r missed => some (0x03, [job, 0xFF, run r, n missed, 0])
  | .frameOverrun r p => some (0x04, [job, 0xFF, run r, n p.code, 0])
  | .frameReclaimed lost j r => some (0x05, [job, frame, run lost, n j.val, run r])
  | .triggerMissed r source stamp p =>
    some (0x06, [n ((e.job.map Fin.val).getD 31 + 32 * source.code), n ((e.frame.map Fin.val).getD 63 + 64 * p.code),
      run r, n (stamp.toNat / 256), n stamp.toNat])
  | .deadlineMissed r p st => some (0x07, [job, frame, run r, n (p.code + 16 * st.code), 0])
  | .jobAborted r missed => some (0x08, [job, 0xFF, run r, n missed, 0])
  | .holdGranted g lease expiry => some (0x09, [n g.val, n lease, n (expiry.toNat / 256), n expiry.toNat, 0])
  | .holdExpired g lease => some (0x0A, [n g.val, n lease, 0, 0, 0])
  | .holdIntruded g h r => some (0x0B, [job, n (g.val + 4 * hostCode h), run r, 0, 0])
  | .calDone cause start before => some (0x0C, calibration cause before start ++ [0])
  | .calFailed cause start failures => some (0x0D, calibration cause failures start ++ [0])
  | .converterFault => some (0x0E, [0, 0, 0, 0, 0])
  | .converterRecovered => some (0x0F, [0, 0, 0, 0, 0])
  | .limit _ _ _ _ _ _ _ => none

/-! ### Excitation Controller -/

/-- The output level is the highest of all claims (R129). With no settling in progress the settled level equals it;
with settling in progress the target equals it and the settled level is below it (R130 to R133). -/
def Excitation.Sound (e : Excitation) : Prop :=
  e.output = e.claimed ∧
  match e.target with
  | none => e.settled = e.output
  | some l => l = e.output ∧ e.settled.rank < e.output.rank

/-! ### Job records -/

/-- The four states in which a job holds a frame, a transient claim and its groups (Table 1-2, R126, R139). -/
def JobState.dispatched : JobState → Bool
  | .settling | .running | .preempted | .stopping => true
  | .free | .idle | .armed | .pending | .done => false

/-- The states of a queued job (R24). -/
def JobState.queued : JobState → Bool
  | .pending | .preempted => true
  | .free | .idle | .armed | .settling | .running | .stopping | .done => false

/-- The states in which a latch may be present and a deadline timer may run (R15, R44, R87). -/
def JobState.busy : JobState → Bool
  | .pending | .settling | .running | .preempted | .stopping => true
  | .free | .idle | .armed | .done => false

/-- The period timer of a PERIOD job runs (Table 1-2, R84, R91). -/
def Job.periodRuns (r : Job) : Bool :=
  r.source == .period && (r.state == .armed || r.state.busy) && r.stopReason != some .teardown

/-- The fields of one record agree with its state: the ranges and presence of Table 1-1, the latch (R5, R15, R19), disarm
pending (R19), the stop reason (R14, R18), the period timer (R83, R84) and the deadline timer (R44). -/
def Job.Sound (r : Job) : Prop :=
  r.missed ≤ 255 ∧ r.preemptCount ≤ 255 ∧ r.runsRemaining ≤ 255 ∧
  (∀ n, r.repeatMode = .count n → 1 ≤ n ∧ n ≤ 255) ∧
  (r.period.isSome = true ↔ r.source = .period) ∧
  (∀ p, r.period = some p → 20 ≤ p ∧ p ≤ 1048575) ∧
  (∀ d, r.deadline = some d → 1 ≤ d ∧ d ≤ 65535) ∧
  (r.latch.isSome = true → r.state.busy = true) ∧
  (r.disarmPending = true → r.state.dispatched = true ∧ r.latch = none) ∧
  (r.stopReason.isSome = true ↔ r.state = .stopping) ∧
  (r.state = .preempted → r.cls = .routine) ∧
  (r.periodTimer.isSome = r.periodRuns) ∧
  (r.deadlineTimer.isSome = true → r.deadline.isSome = true ∧ r.state.busy = true) ∧
  (r.stopReason = some .teardown → r.deadlineTimer = none)

/-- Every job record is sound. -/
def State.JobsSound (s : State) : Prop := ∀ j : JobId, (s.job j).Sound

/-! ### What a run end and a release of the converter leave -/

/-- The runs remaining after a counted run end (R14, step 1). -/
def Job.runsAfter (r : Job) : Nat :=
  match r.repeatMode with
  | .count _ => r.runsRemaining - 1
  | .oneShot | .continuous => r.runsRemaining

/-- The state a counted run end chooses (R14, step 2). -/
def Job.endState (r : Job) : JobState :=
  let going := if r.disarmPending then JobState.idle else JobState.armed
  match r.repeatMode with
  | .oneShot => .done
  | .count _ => if r.runsRemaining - 1 = 0 then .done else going
  | .continuous => going

/-- The record that a counted run end leaves when it consumes no latch (R14, R15). -/
def Job.ended (r : Job) : Job :=
  { r with
    state := r.endState, runsRemaining := r.runsAfter, stopReason := none, disarmPending := false, latch := none
    missed := if r.latch.isSome = true ∧ r.endState ≠ .armed then min 255 (r.missed + 1) else r.missed
    periodTimer := if r.endState = .armed then r.periodTimer else none }

/-- A deadline counted from a timestamp has passed at a moment (R44). -/
def Job.PastDeadline (r : Job) (stamp now : Time) : Prop := ∃ d, r.deadline = some d ∧ d ≤ (now - stamp).toNat

/-- The engine with the converter released (R112, R113). -/
def Engine.released (e : Engine) : Engine := { e with state := .idle, step := none, settlingJob := none }

/-- The engine with a step of a job started (R109). -/
def Engine.starting (e : Engine) (j : JobId) (index : Nat) (x : SeqStep) (now : Time) : Engine :=
  { e with
    state := .converting, settlingJob := none, step := some ⟨j, index, x.channel, x.gain, x.settle, now⟩ }

/-- The engine given to a job that settles (R7, R12). -/
def Engine.settlingFor (e : Engine) (j : JobId) : Engine :=
  { e with state := .settling, step := none, settlingJob := some j }

/-- The engine with one more conversion counted, held at 65,599 (R111, R114). -/
def Engine.counted (e : Engine) : Engine := { e with counter := min 65599 (e.counter + 1), step := none }

/-- The converter is free in IDLE, and calibration is neither due nor requested (R31). -/
def State.FreeForJobs (s : State) : Prop :=
  s.engine.state = .idle ∧ s.engine.counter < s.engine.effective ∧ s.engine.requesters = ⟨false, false, false⟩

/-- An entry of the dispatch queue that is eligible while none before it is; the other two lists are the queue before
and after it (R24, R27, R32). -/
def State.FirstEligible (s : State) (before : List JobId) (j : JobId) (rest : List JobId) : Prop :=
  s.queue = before ++ [j] ++ rest ∧ (∀ k ∈ before, s.heldBack k = true) ∧ s.heldBack j = false

/-- The step in progress, with the moment of its completion reached (R109, R111). -/
def State.StepEnds (s : State) (p : StepInProgress) : Prop :=
  s.inReset = false ∧ s.engine.step = some p ∧
  (s.timeBase - (p.start + BitVec.ofNat 32 (3 + p.settle.val))).toNat < 2 ^ 31

/-- No hold waits for a job to leave a group (R141). -/
def State.NoHoldWaitsFor (s : State) (j : JobId) : Prop :=
  ∀ g : GroupId, (s.groups.at g).occupants.at j = true → (s.groups.at g).state ≠ .pending

/-- A group record after a job has left its occupant set (R139). -/
def State.groupWithout (s : State) (j : JobId) (g : GroupId) : Group :=
  if (s.job j).cls = .routine ∧ (s.seqOf j).touches g = true then
    { s.groups.at g with occupants := (s.groups.at g).occupants.put j false }
  else s.groups.at g

/-- The excitation once a job's transient claim is removed (R128, R129). -/
def State.excWithout (s : State) (j : JobId) : Excitation :=
  Excitation.recompute { s.exc with transient := s.exc.transient.put j none } s.timeBase

/-! ### What a trigger does -/

/-- A job that has taken a trigger with this timestamp and edge mark in ARMED, ready for the dispatch queue (R6, R44). -/
def Job.triggered (r : Job) (stamp : Time) (mark : Option EdgeMark) : Job :=
  { r with
    state := .pending, triggerTime := stamp, stamp := ⟨stamp, mark⟩, missed := 0, deadlineMissed := false
    latch := none, deadlineTimer := r.deadline.map fun d => stamp + BitVec.ofNat 32 d }

/-- What becomes of a state when a job enters PENDING with this record: it joins the dispatch queue; and when the deadline
counted from its trigger time has passed already, the expiry is reported at once, KEEP marks the run late, and DROP ends
it counted with its own run number and no frame (R6, R14, R16, R44, R46, R47; in the same step: log 9). -/
def State.entering (s : State) (j : JobId) (r : Job) : State :=
  if (r.deadline.any fun d => decide (d ≤ (s.timeBase - r.triggerTime).toNat)) = true then
    let told := (s.events.get r.owner).push
      ⟨s.timeBase, some j, r.fillFrame, .deadlineMissed (r.runNumber + 1) r.late .pending⟩
    match r.late with
    | .keep => State.enqueue { s with
        jobs := s.jobs.put j { r with deadlineTimer := none, deadlineMissed := true }
        events := s.events.put r.owner told } j
    | .drop =>
      let dropped : Job := { r with runNumber := r.runNumber + 1, deadlineTimer := none, blocked := false }
      { s with
        jobs := s.jobs.put j dropped.ended
        events := s.events.put r.owner (if dropped.endState = .done then
          told.push ⟨s.timeBase, some j, none, .jobDone dropped.runNumber 0⟩ else told) }
  else (s.setJob j r).enqueue j

/-- What busy handling makes of a state (R87, R88): the latch set, or the trigger counted and the first miss of the run
reported. -/
def State.busyHandled (s : State) (j : JobId) (source : TriggerSource) (stamp : Time) : State :=
  let r := s.job j
  if r.disarmPending = false ∧ r.busy = .latch ∧ r.latch = none then s.setJob j { r with latch := some stamp }
  else
    let t := s.setJob j { r with missed := min 255 (r.missed + 1) }
    if r.missed = 0 then
      t.emit r.owner (some j) r.fillFrame
        (.triggerMissed (if r.state = .pending then r.runNumber + 1 else r.runNumber) source stamp r.busy)
    else t

/-! ### Sequence Store -/

/-- The number of job records that are not FREE and name a sequence (R103). -/
def State.namers (s : State) (k : SeqId) : Nat :=
  (allJobs.filter fun j => (s.job j).state != .free && (s.job j).seq == k).length

/-- One record of the Sequence Store: a FREE record holds no step entries and is named by no job; a DEFINED one has 1
to 16 steps, counts the jobs that name it, and is an orphan only while one does (R93, R103). -/
def State.SeqSound (s : State) (k : SeqId) : Prop :=
  (s.seqs.at k).refCount = s.namers k ∧
  ((s.seqs.at k).defined = false → (s.seqs.at k).steps = [] ∧ s.namers k = 0) ∧
  ((s.seqs.at k).defined = true → 1 ≤ (s.seqs.at k).steps.length ∧ (s.seqs.at k).steps.length ≤ 16) ∧
  ((s.seqs.at k).defined = true → (s.seqs.at k).owner = none → 0 < s.namers k)

/-- The free step entries and the step counts of all records make up the pool of 256 (R98). -/
def State.PoolSound (s : State) : Prop :=
  s.freeSteps + (allSeqs.map fun k => (s.seqs.at k).steps.length).sum = 256

/-- The Sequence Store is sound. -/
def State.SequencesSound (s : State) : Prop := (∀ k : SeqId, s.SeqSound k) ∧ s.PoolSound

/-! ### Dispatcher and Conversion Engine -/

/-- The dispatch queue holds exactly the jobs in PENDING and PREEMPTED, each once (R24). -/
def State.QueueSound (s : State) : Prop :=
  s.queue.Nodup ∧ ∀ j : JobId, j ∈ s.queue ↔ (s.job j).state.queued = true

/-- The converter's state and the job table agree: SETTLING for the one job in SETTLING, CONVERTING for the one job in
RUNNING or STOPPING, and otherwise no job in these states (R30, R108). -/
def State.ConverterSound (s : State) : Prop :=
  (∀ j : JobId, (s.job j).state = .settling ↔ s.engine.settlingJob = some j) ∧
  (∀ j : JobId, ((s.job j).state = .running ∨ (s.job j).state = .stopping) ↔
    s.engine.step.map StepInProgress.job = some j) ∧
  (s.engine.settlingJob.isSome = true ↔ s.engine.state = .settling) ∧
  (s.engine.step.isSome = true ↔ s.engine.state = .converting)

/-- The next step of a run with the converter or waiting to regain it is a step of its sequence (R7, R10, R12). -/
def State.StepsSound (s : State) : Prop :=
  ∀ j : JobId, (s.job j).state = .settling ∨ (s.job j).state = .running ∨ (s.job j).state = .preempted →
    (s.job j).nextStep < (s.seqOf j).steps.length

/-- The scheduling blocks agree with one another: job records, sequences, dispatch queue and converter. -/
def State.Scheduled (s : State) : Prop :=
  s.JobsSound ∧ s.SequencesSound ∧ s.QueueSound ∧ s.ConverterSound ∧ s.StepsSound

/-- Interval, counter, failure count and stale flag (R114, R116, R121, R122). The failure count is 3 in FAULT and in a
calibration started there, and nowhere else. -/
def Engine.Sound (e : Engine) : Prop :=
  e.effective = effectiveInterval e.requests ∧
  (∀ h n, e.requests.get h = some n → 256 ≤ n ∧ n ≤ 65535) ∧
  e.counter ≤ 65599 ∧ e.failures ≤ 3 ∧
  (e.state = .fault → e.failures = 3 ∧ e.counter = 0) ∧
  (e.failures = 3 → e.state = .fault ∨ e.state = .calibrating) ∧
  (e.stale = false → e.failures = 0)

/-! ### Result Store -/

/-- The fill frames of a host's jobs. -/
def State.fillFrames (s : State) (h : HostId) : List FrameId :=
  (allJobs.filter fun j => (s.job j).owner == h).filterMap fun j => (s.job j).fillFrame

/-- Every frame stands in exactly one place: the free pool, the fill frame of one job, or one delivery queue (R53). -/
def State.PlacesSound (s : State) : Prop :=
  (s.pool ++ (s.fillFrames .h0 ++ s.delivery.h0) ++ (s.fillFrames .h1 ++ s.delivery.h1) ++
    (s.fillFrames .h2 ++ s.delivery.h2)).Perm allFrames

/-- The frame records agree with the places: FREE in the pool, FILLING and COMPLETE under their owners (R53, R54). -/
def State.FrameRecordsSound (s : State) : Prop :=
  (∀ f ∈ s.pool, (s.frames.at f).state = .free) ∧
  (∀ j f, (s.job j).fillFrame = some f →
    (s.frames.at f).state = .filling ∧ (s.frames.at f).job = j ∧ (s.frames.at f).owner = (s.job j).owner ∧
    (s.frames.at f).sampleCount = (s.seqOf j).steps.length) ∧
  (∀ h, ∀ f ∈ s.delivery.get h, (s.frames.at f).state = .complete ∧ (s.frames.at f).owner = h)

/-- The in-use counts are the numbers of frames assigned, none above its allowance, and the allowances sum to 48
(R57). -/
def State.CountsSound (s : State) : Prop :=
  (∀ h, s.inUse.get h = (s.fillFrames h).length + (s.delivery.get h).length ∧
    s.inUse.get h ≤ s.allowance.get h) ∧
  s.allowance.h0 + s.allowance.h1 + s.allowance.h2 = 48

/-- What a job holds, by its state: a fill frame, a transient claim at its sequence's minimum, and, for a ROUTINE job, a
place among the occupants of the groups it touches (Table 1-2, R53, R126, R139). -/
def State.HoldingsSound (s : State) : Prop :=
  ∀ j : JobId,
    ((s.job j).fillFrame.isSome = (s.job j).state.dispatched) ∧
    (s.exc.transient.at j = if (s.job j).state.dispatched then some (s.seqOf j).minimum else none) ∧
    (∀ g : GroupId, (s.groups.at g).occupants.at j =
      ((s.job j).cls == .routine && (s.job j).state.dispatched && (s.seqOf j).touches g))

/-- The resources jobs hold agree with the job table. -/
def State.Resourced (s : State) : Prop :=
  s.PlacesSound ∧ s.FrameRecordsSound ∧ s.CountsSound ∧ s.HoldingsSound

/-- The valid samples of a fill frame are those of the steps before the job's next step; in a COMPLETE frame every step
has a valid sample; and each valid sample stands in the slot of its step (R55, R64). -/
def State.SamplesSound (s : State) : Prop :=
  (∀ j f, (s.job j).fillFrame = some f →
    ∀ k : Fin 16, ((s.frames.at f).samples.at k).valid = decide (k.val < (s.job j).nextStep)) ∧
  (∀ h, ∀ f ∈ s.delivery.get h,
    ∀ k : Fin 16, ((s.frames.at f).samples.at k).valid = decide (k.val < (s.frames.at f).sampleCount)) ∧
  (∀ f : FrameId, ∀ k : Fin 16, ((s.frames.at f).samples.at k).valid = true →
    ((s.frames.at f).samples.at k).step = k.val)

/-! ### Hold Manager and Window Unit -/

/-- A HELD group has no foreign occupant other than by its holder's own jobs, a PENDING one waits for at least one, and
the lease of either is 1 to 255 ms (R138, R141, R145). -/
def State.HoldsSound (s : State) : Prop :=
  ∀ g : GroupId,
    ((s.groups.at g).state ≠ .free → 1 ≤ (s.groups.at g).lease ∧ (s.groups.at g).lease ≤ 255) ∧
    ((s.groups.at g).state = .held → s.foreignOccupants g (s.groups.at g).host = 0) ∧
    ((s.groups.at g).state = .pending → 0 < s.foreignOccupants g (s.groups.at g).host)

/-- One window of a host: a disabled one is UNKNOWN and NOTIFY, an enabled one has its limits in order, and a named job
is a job of this host that is not FREE (R151, R157). -/
def State.WindowSound (s : State) (h : HostId) (w : WindowId) : Prop :=
  ((s.window h w).enabled = false → (s.window h w).lastZone = .unknown ∧ (s.window h w).action = .notify) ∧
  ((s.window h w).enabled = true → (s.window h w).low ≤ (s.window h w).high) ∧
  (∀ j, (s.window h w).action = .startJob j → (s.job j).state ≠ .free ∧ (s.job j).owner = h)

def State.WindowsSound (s : State) : Prop := ∀ h w, s.WindowSound h w

end Sys2Proof.Machine
end

