-- ==== Sys2Proof/Certificates/Slice0/Obligations.lean ====
section
/-! DEFINITION. The statements for the provers. Each docstring names the rules it formalises; where a clause states a
choice of the model, the docstring names its log entry. -/

open Sys2Proof Sys2Proof.Machine

/-! ### Steps and reset -/

/-- One step takes the command at the front of the queue. What an empty queue does is the model's choice (log 1): in
reset nothing; otherwise an arrival of the part's own, the free decision that is due (log 30), or, only when no
arrival must be taken and no decision is due, one microsecond (R75). The completions and timers whose moment has come
must be taken, and so must a command in hand or a prepared response 2 µs after the transaction that brought it (R76,
R173; a moment reached is read as log 3); of themselves a step and a calibration complete then and not before, when
every command in hand is a command of its port's host, as it is in every state that a run reaches. -/
def Obligations.StepTakesTheFrontCommand : Prop :=
  (∀ (i : Instr) (rest : List Instr) (s : State),
    step { s with pending := i :: rest } = exec i { s with pending := rest }) ∧
  (∀ s : State, s.pending = [] → s.inReset = true → step s = .next s) ∧
  (∀ s : State, s.pending = [] → s.inReset = false → s.mustArrive = [] → s.mayArrive = [] → s.decisionDue = false →
    step s = .next { s with timeBase := s.timeBase + 1 }) ∧
  (∀ s : State, s.pending = [] → s.inReset = false → ∃ n : Nat,
    (∃ i ∈ s.mustArrive ++ s.mayArrive, step s = exec i { s with draws := n }) ∨
    (s.decisionDue = true ∧ step s = .next (State.freeDecision { s with draws := n })) ∨
    (s.mustArrive = [] ∧ s.decisionDue = false ∧
      step s = .next { s with draws := n, timeBase := s.timeBase + 1 })) ∧
  (∀ s : State,
    let past := fun e : Time => (s.timeBase - e).toNat < 2 ^ 31
    (s.HandsSound →
      ((∃ code, Instr.stepComplete code ∈ s.mustArrive) ↔
        ∃ p, s.engine.step = some p ∧ past (p.start + BitVec.ofNat 32 (3 + p.settle.val))) ∧
      ((∃ result, Instr.calibrationComplete result ∈ s.mustArrive) ↔
        s.engine.state = .calibrating ∧ past (s.engine.calStart + 150))) ∧
    (s.exc.target ≠ none → past s.exc.expiry → Instr.settleExpiry ∈ s.mustArrive) ∧
    (∀ (j : JobId) (e : Time), (s.job j).deadlineTimer = some e → past e → Instr.deadlineExpiry j ∈ s.mustArrive) ∧
    (∀ (j : JobId) (e : Time), (s.job j).periodTimer = some e → past e → Instr.periodExpiry j ∈ s.mustArrive) ∧
    (∀ g : GroupId, (s.groups.at g).state = .held → past (s.groups.at g).expiry →
      Instr.leaseExpiry g ∈ s.mustArrive) ∧
    (∀ h : HostId, 2 ≤ (s.timeBase - (s.port h).endedAt).toNat →
      (∀ i : Instr, (s.port h).inHand = some i → i ∈ s.mustArrive) ∧
      ((s.port h).inHand = none → (s.port h).prepared ≠ none → Instr.responseReady h ∈ s.mustArrive)))

/-- RESET_N_ASSERT returns every block to its initial state from any state (R22, R52, R73, R92, R107, R108, R137, R150,
R159, R169, R177). That the allowances and the ALLOC value stay until the release is log 6. The first clause equates the
whole state with `State.reset`, in which the items that no rule gives a value are the model's fillers (log 5), and the
waiting commands and the count of draws, which are the model's own, stay (log 1, log 13). While RESET_N is asserted
every command but the two of RESET_N leaves the state as it is: the ports ignore their lines, no edge is recognised, no
timer runs, and a step in progress produces no report (R92, R110, R177); that a row of the command table whose occasion
does not exist changes nothing is log 2, and of a command that no port has in hand it is log 17. -/
def Obligations.ResetAssertionReturnsEveryBlock : Prop :=
  (∀ s : State, exec .resetNAssert s = .next
    { State.reset with pending := s.pending, draws := s.draws, alloc := s.alloc, allowance := s.allowance }) ∧
  (let s := State.reset
   s.inReset = true ∧ s.timeBase = 0 ∧ s.queue = [] ∧ s.waiting = [] ∧ s.freeSteps = 256 ∧ s.pool = allFrames ∧
   (∀ j : JobId, (s.job j).state = .free ∧ (s.job j).periodTimer = none ∧ (s.job j).deadlineTimer = none ∧
     (s.job j).blocked = false) ∧
   (∀ k : SeqId, (s.seqs.at k).defined = false ∧ (s.seqs.at k).refCount = 0) ∧
   (∀ f : FrameId, (s.frames.at f).state = .free) ∧
   (∀ h : HostId, s.delivery.get h = [] ∧ s.inUse.get h = 0 ∧ s.exc.standing.get h = .off ∧
     s.events.get h = ⟨[], 0, false⟩ ∧ (s.port h).slot = none ∧ (s.port h).inHand = none ∧
     (∀ w : WindowId, (s.window h w).enabled = false ∧ (s.window h w).lastZone = .unknown ∧
       (s.window h w).action = .notify)) ∧
   (∀ j : JobId, s.exc.transient.at j = none) ∧ s.exc.output = .off ∧ s.exc.settled = .off ∧ s.exc.target = none ∧
   (∀ g : GroupId, (s.groups.at g).state = .free ∧ ∀ j : JobId, (s.groups.at g).occupants.at j = false) ∧
   s.engine.step = none ∧ s.engine.settlingJob = none ∧ s.engine.state ≠ .calibrating) ∧
  (∀ (s : State) (i : Instr), s.inReset = true → i ≠ .resetNAssert →
    (∀ (alloc : BitVec 2) (levels : LineLevels) (csLow : PerHost Bool), i ≠ .resetNRelease alloc levels csLow) →
    exec i s = .next s)

/-- RESET_N_RELEASE starts the part: the allowances of Table 3-3, the detectors' levels, STARTUP in each slot, one
DEVICE_RESET record for each host and the start-up calibration; every other block is empty (R57, R78, R92, R124, R137,
R169, R177). With RESET_N high already there is no release, and nothing changes (log 2). -/
def Obligations.ReleaseStartsThePart : Prop :=
  (∀ (s : State) (alloc : BitVec 2) (levels : LineLevels) (csLow : PerHost Bool), s.inReset = true →
    ∃ t : State, exec (.resetNRelease alloc levels csLow) s = .next t ∧
      t.inReset = false ∧ t.timeBase = 0 ∧ t.alloc = alloc ∧ t.levels = levels ∧
      t.pending = s.pending ∧ t.draws = s.draws ∧
      t.allowance = (if alloc = 0 then ⟨16, 16, 16⟩ else if alloc = 1 then ⟨24, 12, 12⟩
        else if alloc = 2 then ⟨12, 24, 12⟩ else ⟨12, 12, 24⟩) ∧
      (∀ h : HostId, (t.port h).slot = some ⟨.startup, 0, []⟩ ∧ (t.port h).readiness = .ready ∧
        (t.port h).transaction = (if csLow.get h then .lockedOut else .idle) ∧ (t.port h).inHand = none ∧
        (t.port h).prepared = none ∧
        t.events.get h = ⟨[⟨0, none, none, .deviceReset h alloc (t.allowance.get h)⟩], 0, true⟩ ∧
        t.delivery.get h = [] ∧ t.inUse.get h = 0 ∧ t.exc.standing.get h = .off ∧
        ∀ w : WindowId, (t.window h w).enabled = false) ∧
      t.engine = ⟨.calibrating, none, none, 0, true, 0, ⟨none, none, none⟩, 4096, ⟨false, false, false⟩,
        ⟨false, false, false⟩, .startup, 0, 0, ⟨false, false, false⟩⟩ ∧
      (∀ j : JobId, (t.job j).state = .free ∧ t.exc.transient.at j = none) ∧
      (∀ k : SeqId, (t.seqs.at k).defined = false ∧ (t.seqs.at k).refCount = 0) ∧
      t.freeSteps = 256 ∧ t.queue = [] ∧ t.decisionDue = false ∧ t.waiting = [] ∧ t.pool = allFrames ∧
      t.exc.output = .off ∧ t.exc.settled = .off ∧ t.exc.target = none ∧
      (∀ g : GroupId, (t.groups.at g).state = .free ∧ ∀ j : JobId, (t.groups.at g).occupants.at j = false)) ∧
  (∀ (s : State) (alloc : BitVec 2) (levels : LineLevels) (csLow : PerHost Bool), s.inReset = false →
    exec (.resetNRelease alloc levels csLow) s = .next s)

/-! ### Host ports -/

/-- TRANSACTION_BEGIN on an IDLE port fixes the outgoing kind and image once: the slot's response when READY, NOT_READY
with the tag in hand when WAITING (R170, R174, R176). On a port that is not IDLE, and in reset, it changes nothing
(R177, log 2). That a READY slot holds a response is part of the invariant that every step keeps (`Port.SlotSound`,
log 20). -/
def Obligations.TransactionBeginFixesTheImage : Prop :=
  ∀ (s : State) (h : HostId),
    (s.inReset = true ∨ (s.port h).transaction ≠ .idle → exec (.transactionBegin h) s = .next s) ∧
    (s.inReset = false → (s.port h).transaction = .idle →
      (∀ r : Response, (s.port h).readiness = .ready → (s.port h).slot = some r →
        exec (.transactionBegin h) s = .next (s.setPort h { s.port h with
          transaction := .shifting, byteCount := 0, received := [], inBits := [], outBit := 0
          outgoing := .slot, image := r.image })) ∧
      ((s.port h).readiness = .waiting →
        exec (.transactionBegin h) s = .next (s.setPort h { s.port h with
          transaction := .shifting, byteCount := 0, received := [], inBits := [], outBit := 0
          outgoing := .notReady
          image := Response.image ⟨.notReady, (s.port h).tagInHand, []⟩ })))

/-- The outgoing image of a response is its frame of Table 12-2: status, tag, length, payload, CRC-8 over these, and
filler 0xFF to byte 63 (R174, R186). A transaction shifts it out bit by bit, one at each falling edge of SCK, the most
significant bit of each byte first, and ones after byte 63; with CS_N high, in LOCKED_OUT and in reset SDO is not driven
and clocks have no effect (R170, R171, R177, R189). -/
def Obligations.ResponseImageIsTheResponseFrame : Prop :=
  (∀ r : Response, r.payload.length ≤ 60 →
    r.image.length = 64 ∧
    r.image.take (3 + r.payload.length) =
      [r.status.code, r.tag, BitVec.ofNat 8 r.payload.length] ++ r.payload ∧
    r.image.getD (3 + r.payload.length) 0 = crc8 (r.image.take (3 + r.payload.length)) ∧
    r.image.drop (4 + r.payload.length) = List.replicate (60 - r.payload.length) 0xFF) ∧
  (∀ (p : Port) (sdi : List Bool),
    let n := sdi.length
    (p.transaction = .shifting → p.outBit = 0 → p.image.length = 64 →
      (n < 512 → (p.clocked sdi).sdo = some ((p.image.getD (n / 8) 0).getLsbD (7 - n % 8))) ∧
      (512 ≤ n → (p.clocked sdi).sdo = some true)) ∧
    (p.transaction ≠ .shifting → p.clocked sdi = p ∧ p.sdo = none)) ∧
  (∀ (s : State) (h : HostId),
    (s.inReset = true → s.sdo h = none) ∧ (s.inReset = false → s.sdo h = (s.port h).sdo))

/-- A short transaction and a gap violation are discarded: nothing but the transaction's own items changes, so the slot
keeps its contents and readiness and the response in preparation stays. Whole bytes are eight rising edges each, most
significant bit first, and a partial byte at the end is not counted (R170, R171, R175, R176). What those items hold once
the transaction is over is the model's choice (log 29), and that its clocks come with its end is log 18. A rise of CS_N
on a LOCKED_OUT port ends no transaction (R177); one on an IDLE port changes nothing (log 2). -/
def Obligations.FaultyTransactionsAreDiscarded : Prop :=
  ∀ (s : State) (h : HostId) (sdi : List Bool), s.inReset = false →
    let n := sdi.length / 8
    let p := s.port h
    (p.transaction = .shifting → p.Fresh → n < 64 →
      exec (.transactionEnd h sdi) s = .next (s.setPort h { p with
        transaction := .idle, byteCount := n, received := sampledBytes sdi
        inBits := sdi.drop (8 * n), outBit := sdi.length })) ∧
    (p.transaction = .shifting → p.Fresh → 64 ≤ n → p.outgoing = .notReady →
      exec (.transactionEnd h sdi) s = .next (s.setPort h { p with
        transaction := .idle, byteCount := 64, received := (sampledBytes sdi).take 64
        inBits := sdi.drop (8 * n), outBit := sdi.length })) ∧
    (p.transaction = .lockedOut →
      exec (.transactionEnd h sdi) s = .next (s.setPort h { p with transaction := .idle })) ∧
    (p.transaction = .idle → exec (.transactionEnd h sdi) s = .next s)

/-- A complete transaction that shifted out the slot consumes the response, takes the tag in hand and examines the
first 64 bytes: length, CRC, code, in this order; a frame that passes is put in hand as its command (R170, R171, R172,
R173). What the transaction's items hold afterwards is log 29, and that its clocks come with its end is log 18. -/
def Obligations.CompleteTransactionIsExamined : Prop :=
  ∀ (s : State) (h : HostId) (sdi : List Bool), s.inReset = false → (s.port h).transaction = .shifting →
    (s.port h).Fresh → (s.port h).outgoing = .slot → 512 ≤ sdi.length →
    let frame := (sampledBytes sdi).take 64
    let n := (frame.getD 2 0).toNat
    let tag := frame.getD 1 0
    let i := Instr.transactionEnd h sdi
    let after := fun (p : Option Response) (c : Option Instr) => s.setPort h { s.port h with
      transaction := .idle, byteCount := 64, received := frame, inBits := sdi.drop (8 * (sdi.length / 8))
      outBit := sdi.length, slot := none, readiness := .waiting, tagInHand := tag, endedAt := s.timeBase
      prepared := p, inHand := c }
    (60 < n → exec i s = .next (after (some ⟨.badLength, tag, []⟩) none)) ∧
    (n ≤ 60 → crc8 (frame.take (3 + n)) ≠ frame.getD (3 + n) 0 →
      exec i s = .next (after (some ⟨.badFrame, tag, []⟩) none)) ∧
    (n ≤ 60 → crc8 (frame.take (3 + n)) = frame.getD (3 + n) 0 →
      (commandOf h (frame.getD 0 0) ((frame.drop 3).take n) = none →
        exec i s = .next (after (some ⟨.unknownCommand, tag, []⟩) none)) ∧
      (∀ c : Instr, commandOf h (frame.getD 0 0) ((frame.drop 3).take n) = some c →
        exec i s = .next (after none (some c))))

/-- RESPONSE_READY places the prepared response in the slot and makes it READY, and touches nothing else (R173): what
the tag in hand and the end moment hold while READY is log 31; with nothing prepared it changes nothing (log 2). -/
def Obligations.ResponseReadyPlacesTheResponse : Prop :=
  ∀ (s : State) (h : HostId), s.inReset = false →
    (∀ r : Response, (s.port h).prepared = some r →
      exec (.responseReady h) s = .next (s.setPort h { s.port h with
        slot := some r, readiness := .ready, prepared := none })) ∧
    ((s.port h).prepared = none → exec (.responseReady h) s = .next s)

/-- The frame in which a host sends a command is 64 bytes long and is read back as exactly that command with its tag;
and a frame that is accepted as a command is such a frame, but for its filler (R172, R186, R187, Tables 12-1, 12-4). -/
def Obligations.CommandFramesRoundTrip : Prop :=
  (∀ (h : HostId) (i : Instr) (tag filler : Byte) (frame : List Byte), i.wf = true → i.caller = some h →
    i.toFrame tag filler = some frame →
    frame.length = 64 ∧ frame.getD 1 0 = tag ∧ checkFrame h frame = .command i) ∧
  (∀ (h : HostId) (i : Instr) (frame : List Byte), frame.length = 64 → checkFrame h frame = .command i →
    i.caller = some h ∧ i.wf = true ∧
    ∃ code : Byte, i.code = some code ∧
      (let covered := [code, frame.getD 1 0, BitVec.ofNat 8 i.argBytes.length] ++ i.argBytes
       frame.take (4 + i.argBytes.length) = covered ++ [crc8 covered]))

/-! ### Taking a command -/

/-- Every command in hand is taken, answered once with its own tag and at most 60 payload bytes on its own host's port,
and leaves the hand empty; no other item of any port changes, HOST_RESET included (R173, R178, R184). The second clause
is the model's reading of R173 (log 17): a command that the port has not in hand is no arrival and changes nothing. -/
def Obligations.EveryCommandIsAnsweredOnItsOwnPort : Prop :=
  (∀ (h : HostId) (i : Instr) (s : State), s.SequencesSound → i.caller = some h → s.Offered h i →
    ∃ (t : State) (st : Status) (payload : List Byte), exec i s = .next t ∧ payload.length ≤ 60 ∧
      t.ports = s.ports.put h { s.port h with
        inHand := none, prepared := some ⟨st, (s.port h).tagInHand, payload⟩ }) ∧
  (∀ (h : HostId) (i : Instr) (s : State), i.caller = some h → ¬ s.Offered h i → exec i s = .next s)

/-- A command answered with a refusal, or with EMPTY, has no effect: no state of any block changes, no event is queued
and no decision is caused; only the port's own answer is prepared, with no payload (R178). -/
def Obligations.RefusedCommandsHaveNoEffect : Prop :=
  ∀ (h : HostId) (i : Instr) (s t : State) (r : Response), i.caller = some h → s.Offered h i →
    exec i s = .next t → (t.port h).prepared = some r →
    r.status ∈ ([.badFrame, .badLength, .unknownCommand, .badArgument, .notOwner, .noSpace, .inUse, .wrongState,
      .heldByOther, .empty] : List Status) →
    t = s.setPort h { s.port h with inHand := none, prepared := some ⟨r.status, (s.port h).tagInHand, []⟩ }

/-- A command whose argument length differs from its expected length is refused with BAD_ARGUMENT, for each of the 24
commands (R180, Table 12-4). -/
def Obligations.WrongArgumentLengthIsRefused : Prop :=
  ∀ (h : HostId) (i : Instr) (s : State), i.caller = some h → s.Offered h i →
    i.argBytes.length ≠ expectedLength i → exec i s = .next (s.respond h .badArgument [])

/-- NOP is answered OK with no payload and changes no state in any block (R181). -/
def Obligations.NopIsAnsweredOk : Prop :=
  ∀ (h : HostId) (s : State), s.Offered h (.nop h []) →
    exec (.nop h []) s = .next (s.setPort h { s.port h with
      inHand := none, prepared := some ⟨.ok, (s.port h).tagInHand, []⟩ })

/-- STATUS answers OK with the 57 bytes of Table 12-8 and changes nothing of the part: the draw behind the fields that
are open at this moment is the model's (log 14), and bits that the table gives to nothing, with the first three
of the four bytes of a group PENDING for the caller, are 0 (log 28). -/
def Obligations.StatusReportsOneMoment : Prop :=
  ∀ (h : HostId) (s : State), s.Offered h (.status h []) →
    ∃ p : List Byte, exec (.status h []) s = .next (s.drawn.respond h .ok p) ∧ p.length = 57 ∧
      numberAt p 0 1 = hostCode h + 4 * s.engine.state.code + 32 * bit s.engine.stale +
        64 * bit (decide (s.engine.effective ≤ s.engine.counter)) +
        128 * bit (decide (s.engine.effective + 64 ≤ s.engine.counter)) ∧
      numberAt p 1 4 = s.timeBase.toNat ∧
      numberAt p 5 1 = (allJobs.filter fun j => (s.job j).state == .free).length ∧
      numberAt p 6 2 = s.freeSteps % 65536 ∧
      numberAt p 8 1 = (allSeqs.filter fun k => !(s.seqs.at k).defined).length ∧
      numberAt p 9 3 = s.engine.counter % 16777216 ∧
      numberAt p 12 1 = s.engine.failures % 4 + 4 * bit (s.engine.requesters.get h) +
        8 * bit (s.engine.served.get h) ∧
      numberAt p 13 2 = s.engine.effective % 65536 ∧
      numberAt p 15 2 = (s.engine.requests.get h).getD 0 % 65536 ∧
      numberAt p 17 1 = (s.exc.standing.get h).rank + 4 * s.exc.output.rank + 16 * s.exc.settled.rank +
        64 * s.exc.highestTransient.rank ∧
      numberAt p 18 1 = s.exc.target.elim 0 Level.rank ∧
      (s.exc.target.isSome = true → numberAt p 19 4 = s.exc.expiry.toNat) ∧
      numberAt p 23 1 = s.allowance.get h % 256 ∧ numberAt p 24 1 = s.inUse.get h % 256 ∧
      numberAt p 25 1 = (s.delivery.get h).length % 256 ∧ numberAt p 26 1 = s.pool.length % 256 ∧
      (∀ g : GroupId, numberAt p (27 + g.val) 1 % 4 = (s.groups.at g).state.code ∧
        ((s.groups.at g).state ≠ .free → numberAt p (27 + g.val) 1 = (s.groups.at g).state.code +
          4 * hostCode (s.groups.at g).host) ∧
        numberAt p (31 + 4 * g.val) 4 =
          (if (s.groups.at g).host = h ∧ (s.groups.at g).state = .held then (s.groups.at g).expiry.toNat
           else if (s.groups.at g).host = h ∧ (s.groups.at g).state = .pending then s.foreignOccupants g h
           else 0)) ∧
      (∀ w : WindowId, numberAt p (47 + 2 * w.val) 1 = bit (s.window h w).enabled +
          2 * bit (decide ((s.window h w).action ≠ .notify)) + 4 * (s.window h w).lastZone.code ∧
        (∀ j : JobId, (s.window h w).action = .startJob j → numberAt p (48 + 2 * w.val) 1 = j.val) ∧
        ((s.window h w).action = .notify → numberAt p (48 + 2 * w.val) 1 = 255)) ∧
      numberAt p 55 1 = (s.events.get h).queue.length % 256 ∧ numberAt p 56 1 = (s.events.get h).loss % 256

/-! ### Sequence Store -/

/-- An accepted DEFINE_SEQ writes the record, named or the lowest FREE one, under the caller with reference count 0,
takes its entries from the pool after returning the old list's, and answers its index (R98, R99, R100, Table 12-6). -/
def Obligations.DefineSeqWritesTheRecord : Prop :=
  ∀ (h : HostId) (s : State) (a : SeqArgs) (k : SeqId), s.Offered h (.defineSeq h a.bytes) →
    1 ≤ a.steps.length → a.steps.length ≤ 16 →
    (a.target = .anyFree ∧ (s.seqs.at k).defined = false ∧ (∀ m : SeqId, m < k → (s.seqs.at m).defined = true) ∨
      a.target = .index k ∧ ((s.seqs.at k).defined = false ∨
        (s.seqs.at k).owner = some h ∧ (s.seqs.at k).refCount = 0)) →
    a.steps.length ≤ s.freeSteps + (s.seqs.at k).steps.length →
    exec (.defineSeq h a.bytes) s = .next (State.respond { s with
      seqs := s.seqs.put k ⟨true, some h, a.scope, a.minimum, a.steps, 0⟩
      freeSteps := s.freeSteps + (s.seqs.at k).steps.length - a.steps.length } h .ok [BitVec.ofNat 8 k.val])

/-- The refusals of DEFINE_SEQ in their order: arguments, target, pool (R99). -/
def Obligations.DefineSeqRefusals : Prop :=
  ∀ (h : HostId) (s : State),
    (∀ args : List Byte, s.Offered h (.defineSeq h args) →
      (args.length ≠ 4 + 2 * (args.getD 3 0).toNat ∨ (args.getD 3 0).toNat = 0 ∨ 16 < (args.getD 3 0).toNat ∨
        31 < (args.getD 0 0).toNat ∧ (args.getD 0 0).toNat ≠ 255 ∨
        1 < (args.getD 1 0).toNat ∨ 3 < (args.getD 2 0).toNat ∨
        ∃ i, i < (args.getD 3 0).toNat ∧ (3 < (args.getD (4 + 2 * i) 0).toNat % 16 ∨
          7 < (args.getD (5 + 2 * i) 0).toNat % 16 ∨
          3 < (args.getD (5 + 2 * i) 0).toNat / 16 ∧ (args.getD (5 + 2 * i) 0).toNat / 16 ≠ 15)) →
      exec (.defineSeq h args) s = .next (s.respond h .badArgument [])) ∧
    (∀ a : SeqArgs, s.Offered h (.defineSeq h a.bytes) → 1 ≤ a.steps.length → a.steps.length ≤ 16 →
      (a.target = .anyFree → (∀ k : SeqId, (s.seqs.at k).defined = true) →
        exec (.defineSeq h a.bytes) s = .next (s.respond h .noSpace [])) ∧
      (∀ k : SeqId, a.target = .index k → (s.seqs.at k).defined = true →
        ((s.seqs.at k).owner ≠ some h → exec (.defineSeq h a.bytes) s = .next (s.respond h .notOwner [])) ∧
        ((s.seqs.at k).owner = some h → 0 < (s.seqs.at k).refCount →
          exec (.defineSeq h a.bytes) s = .next (s.respond h .inUse []))) ∧
      (∀ k : SeqId,
        (a.target = .anyFree ∧ (s.seqs.at k).defined = false ∧ (∀ m : SeqId, m < k → (s.seqs.at m).defined = true) ∨
          a.target = .index k ∧ ((s.seqs.at k).defined = false ∨
            (s.seqs.at k).owner = some h ∧ (s.seqs.at k).refCount = 0)) →
        s.freeSteps + (s.seqs.at k).steps.length < a.steps.length →
        exec (.defineSeq h a.bytes) s = .next (s.respond h .noSpace [])))

/-- DELETE_SEQ: its checks in their order, and the record freed with its entries back in the pool (R101). -/
def Obligations.DeleteSeqFreesTheRecord : Prop :=
  ∀ (h : HostId) (b : Byte) (s : State), s.Offered h (.deleteSeq h [b]) →
    (32 ≤ b.toNat → exec (.deleteSeq h [b]) s = .next (s.respond h .badArgument [])) ∧
    (∀ k : SeqId, b.toNat = k.val →
      ((s.seqs.at k).defined = false → exec (.deleteSeq h [b]) s = .next (s.respond h .badArgument [])) ∧
      ((s.seqs.at k).defined = true →
        ((s.seqs.at k).owner ≠ some h → exec (.deleteSeq h [b]) s = .next (s.respond h .notOwner [])) ∧
        ((s.seqs.at k).owner = some h →
          (0 < (s.seqs.at k).refCount → exec (.deleteSeq h [b]) s = .next (s.respond h .inUse [])) ∧
          ((s.seqs.at k).refCount = 0 → ∃ q : Seq, q.defined = false ∧ q.steps = [] ∧ q.refCount = 0 ∧
            exec (.deleteSeq h [b]) s = .next (State.respond { s with
              seqs := s.seqs.put k q, freeSteps := s.freeSteps + (s.seqs.at k).steps.length } h .ok [])))))

/-- READ_SEQ: its checks, Table 5-3, and the record in the payload; no state changes (R97, R102). -/
def Obligations.ReadSeqReportsTheRecord : Prop :=
  ∀ (h : HostId) (b : Byte) (s : State), s.Offered h (.readSeq h [b]) →
    (32 ≤ b.toNat → exec (.readSeq h [b]) s = .next (s.respond h .badArgument [])) ∧
    (∀ k : SeqId, b.toNat = k.val →
      let q := s.seqs.at k
      (q.defined = false → exec (.readSeq h [b]) s = .next (s.respond h .badArgument [])) ∧
      (q.defined = true → q.owner ≠ some h → q.scope = .priv →
        exec (.readSeq h [b]) s = .next (s.respond h .notOwner [])) ∧
      (q.defined = true → q.owner = some h ∨ q.scope = .shared →
        exec (.readSeq h [b]) s = .next (s.respond h .ok
          ([b, match q.owner with | none => 3 | some .h0 => 0 | some .h1 => 1 | some .h2 => 2,
            match q.scope with | .priv => 0 | .shared => 1,
            match q.minimum with | .off => 0 | .low => 1 | .mid => 2 | .high => 3,
            BitVec.ofNat 8 q.refCount, BitVec.ofNat 8 q.steps.length] ++ (q.steps.map SeqStep.image).flatten))))

/-! ### Job Controller -/

/-- An accepted CREATE_JOB takes the lowest FREE record, fills it from the arguments with the working fields at their
values of R4, adds a reference to the sequence and answers the job id (R3, R4, R103, Table 5-3). The queue stamp, for
which R4 gives no value, is 0 with no edge mark (log 5). -/
def Obligations.CreateJobTakesTheLowestFreeRecord : Prop :=
  ∀ (h : HostId) (s : State) (a : JobArgs) (j : JobId), s.Offered h (.createJob h a.bytes) → a.InRange →
    (s.seqs.at a.seq).defined = true →
    ((s.seqs.at a.seq).owner = some h ∨ (s.seqs.at a.seq).owner ≠ none ∧ (s.seqs.at a.seq).scope = .shared) →
    (s.job j).state = .free → (∀ k : JobId, k < j → (s.job k).state ≠ .free) →
    exec (.createJob h a.bytes) s = .next (State.respond { s with
      jobs := s.jobs.put j
        { state := .idle, owner := h, seq := a.seq, cls := a.cls, priority := a.priority, source := a.source
          period := a.period, busy := a.busy, repeatMode := a.repeatMode, resume := a.resume, deadline := a.deadline
          late := a.late, overflow := a.overflow, runsRemaining := 0, latch := none, missed := 0, runNumber := 0
          triggerTime := 0, stamp := ⟨0, none⟩, nextStep := 0, fillFrame := none, preemptCount := 0
          deadlineMissed := false, disarmPending := false, stopReason := none, periodTimer := none
          deadlineTimer := none, blocked := false }
      seqs := s.seqs.put a.seq { s.seqs.at a.seq with refCount := (s.seqs.at a.seq).refCount + 1 } }
      h .ok [BitVec.ofNat 8 j.val])

/-- The refusals of CREATE_JOB in their order: arguments and sequence, use of the sequence, a FREE record (R3, Table
5-3, Table 12-4). -/
def Obligations.CreateJobRefusals : Prop :=
  ∀ (h : HostId) (s : State) (args : List Byte), s.Offered h (.createJob h args) → args.length = 15 →
    let v := fun i => (args.getD i 0).toNat
    let period := numberAt args 4 3
    let bad := 31 < v 0 ∨ 1 < v 1 ∨ 3 < v 2 ∨ 7 < v 3 ∨ (v 3 = 6 ∧ (period < 20 ∨ 1048575 < period)) ∨ 1 < v 7 ∨
      2 < v 8 ∨ (v 8 = 1 ∧ v 9 = 0) ∨ 1 < v 10 ∨ 1 < v 13 ∨ 1 < v 14
    (bad → exec (.createJob h args) s = .next (s.respond h .badArgument [])) ∧
    (¬ bad → ∀ k : SeqId, v 0 = k.val →
      let q := s.seqs.at k
      (q.defined = false → exec (.createJob h args) s = .next (s.respond h .badArgument [])) ∧
      (q.defined = true → (q.owner = none ∨ q.owner ≠ some h ∧ q.scope = .priv) →
        exec (.createJob h args) s = .next (s.respond h .notOwner [])) ∧
      (q.defined = true → (q.owner = some h ∨ q.owner ≠ none ∧ q.scope = .shared) →
        (∀ j : JobId, (s.job j).state ≠ .free) →
        exec (.createJob h args) s = .next (s.respond h .noSpace [])))

/-- The first three checks of the six job commands, in their order (R2). -/
def Obligations.JobCommandChecks : Prop :=
  ∀ c ∈ ([.armJob, .disarmJob, .startJob, .abortJob, .deleteJob, .jobStatus] : List (HostId → List Byte → Instr)),
  ∀ (h : HostId) (b : Byte) (s : State), s.Offered h (c h [b]) →
    (24 ≤ b.toNat → exec (c h [b]) s = .next (s.respond h .badArgument [])) ∧
    (∀ j : JobId, b.toNat = j.val →
      ((s.job j).state = .free → exec (c h [b]) s = .next (s.respond h .badArgument [])) ∧
      ((s.job j).state = .stopping → (s.job j).stopReason = some .teardown →
        exec (c h [b]) s = .next (s.respond h .badArgument [])) ∧
      ((s.job j).state ≠ .free → ¬((s.job j).state = .stopping ∧ (s.job j).stopReason = some .teardown) →
        (s.job j).owner ≠ h → exec (c h [b]) s = .next (s.respond h .notOwner [])))

/-- ARM_JOB takes an IDLE or DONE job to ARMED, loads COUNT's runs and starts a PERIOD job's timer one period on; in any
other state it is refused (R5, R83). -/
def Obligations.ArmJobArms : Prop :=
  ∀ (h : HostId) (s : State) (j : JobId), s.Offered h (.armJob h [BitVec.ofNat 8 j.val]) → s.Commandable h j →
    ((s.job j).state = .idle ∨ (s.job j).state = .done →
      exec (.armJob h [BitVec.ofNat 8 j.val]) s = .next ((s.setJob j { s.job j with
        state := .armed
        runsRemaining := match (s.job j).repeatMode with
          | .count n => n
          | _ => (s.job j).runsRemaining
        periodTimer := if (s.job j).source = .period then
          (s.job j).period.map fun p => s.timeBase + BitVec.ofNat 32 p else none }).respond h .ok [])) ∧
    ((s.job j).state ≠ .idle → (s.job j).state ≠ .done →
      exec (.armJob h [BitVec.ofNat 8 j.val]) s = .next (s.respond h .wrongState []))

/-- DISARM_JOB by job state (R19, Table 1-3). -/
def Obligations.DisarmJobByState : Prop :=
  ∀ (h : HostId) (s : State) (j : JobId), s.Offered h (.disarmJob h [BitVec.ofNat 8 j.val]) → s.Commandable h j →
    let r := s.job j
    ((r.state = .armed ∨ r.state = .done) →
      exec (.disarmJob h [BitVec.ofNat 8 j.val]) s = .next
        ((s.setJob j { r with state := .idle, periodTimer := none }).respond h .ok [])) ∧
    (r.state = .pending →
      exec (.disarmJob h [BitVec.ofNat 8 j.val]) s = .next (State.respond { s with
        queue := s.queue.erase j
        jobs := s.jobs.put j { r with
          state := .idle, latch := none, deadlineTimer := none, periodTimer := none, blocked := false } } h .ok [])) ∧
    ((r.state = .settling ∨ r.state = .running ∨ r.state = .preempted ∨ r.state = .stopping) →
      exec (.disarmJob h [BitVec.ofNat 8 j.val]) s = .next
        ((s.setJob j { r with disarmPending := true, latch := none }).respond h .ok [])) ∧
    (r.state = .idle → exec (.disarmJob h [BitVec.ofNat 8 j.val]) s = .next (s.respond h .wrongState []))

/-- START_JOB: a COMMAND trigger stamped with the moment the command is taken. IDLE and DONE refuse it; an ARMED job is
QUEUED and its entry reaches the Dispatcher; a busy job is LATCHED or MISSED (R82, R86, R87, R88, Table 4-2). -/
def Obligations.StartJobPresentsATrigger : Prop :=
  ∀ (h : HostId) (s : State) (j : JobId), s.Offered h (.startJob h [BitVec.ofNat 8 j.val]) → s.Commandable h j →
    let r := s.job j
    ((r.state = .idle ∨ r.state = .done) →
      exec (.startJob h [BitVec.ofNat 8 j.val]) s = .next (s.respond h .wrongState [])) ∧
    (r.state = .armed → (∀ d, r.deadline = some d → 1 ≤ d) →
      exec (.startJob h [BitVec.ofNat 8 j.val]) s = .next (State.respond
        (State.entryArrival ((s.setJob j (r.triggered s.timeBase none)).enqueue j) r.cls) h .ok [0])) ∧
    (r.state.busy = true →
      exec (.startJob h [BitVec.ofNat 8 j.val]) s = .next (State.respond
        (s.busyHandled j .command s.timeBase) h .ok
        [if r.disarmPending = false ∧ r.busy = .latch ∧ r.latch = none then 1 else 2]))

/-- ABORT_JOB (R17). In PENDING the job leaves the queue for ARMED; in RUNNING and STOPPING the step in progress goes
on in STOPPING with reason ABORT; from SETTLING and PREEMPTED the frame returns to the pool's tail, the claim goes,
the job leaves its groups, where holds that waited for it may be granted (R141), and enters IDLE or ARMED, and the
Dispatcher takes a free decision when the converter is free. The latch is discarded uncounted, and the abort is
reported when the job reaches ARMED or IDLE. IDLE, ARMED and DONE refuse the command. The fields of the freed frame
are fillers (log 21). -/
def Obligations.AbortJobByState : Prop :=
  ∀ (h : HostId) (s : State) (j : JobId), s.Offered h (.abortJob h [BitVec.ofNat 8 j.val]) → s.Commandable h j →
    let r := s.job j
    let i := Instr.abortJob h [BitVec.ofNat 8 j.val]
    ((r.state = .idle ∨ r.state = .armed ∨ r.state = .done) → exec i s = .next (s.respond h .wrongState [])) ∧
    (r.state = .pending → exec i s = .next (State.respond (State.emit { s with
      queue := s.queue.erase j
      jobs := s.jobs.put j { r with state := .armed, latch := none, deadlineTimer := none, blocked := false } }
      r.owner (some j) none (.jobAborted r.runNumber r.missed)) h .ok [])) ∧
    ((r.state = .running ∨ r.state = .stopping) → exec i s = .next
      ((s.setJob j { r with state := .stopping, stopReason := some .abort, latch := none }).respond h .ok [])) ∧
    (∀ f : FrameId, r.fillFrame = some f →
      let blocked := if r.state = .preempted then false else r.blocked
      let left := State.vacate { s with
        jobs := s.jobs.put j { r with latch := none, fillFrame := none, deadlineTimer := none, blocked := blocked }
        queue := if r.state = .preempted then s.queue.erase j else s.queue
        frames := s.frames.put f Frame.free, pool := s.pool ++ [f]
        inUse := s.inUse.put r.owner (s.inUse.get r.owner - 1), exc := s.excWithout j } j
      let ended := State.emit (left.setJob j { r with
          state := if r.disarmPending then .idle else .armed, latch := none, fillFrame := none
          deadlineTimer := none, disarmPending := false, stopReason := none, blocked := blocked
          periodTimer := if r.disarmPending then none else r.periodTimer })
        r.owner (some j) none (.jobAborted r.runNumber r.missed)
      (r.state = .settling → exec i s = .next
        (State.respond (State.freeDecision { ended with engine := s.engine.released }) h .ok [])) ∧
      (r.state = .preempted → exec i s = .next (State.respond ended.arrival h .ok [])))

/-- DELETE_JOB frees an IDLE or DONE record, takes its reference from its sequence (an orphan named by no other job is
freed with its entries), reverts the owner's windows that name it and skips presentations fixed for it; results and
events stay (R20, R80, R103, R157). Any other state refuses it. The other fields of a freed record have no meaning, and
that they read as `Job.free` and `Seq.free` is the model's choice (log 5, log 21). -/
def Obligations.DeleteJobFreesTheRecord : Prop :=
  ∀ (h : HostId) (s : State) (j : JobId), s.Offered h (.deleteJob h [BitVec.ofNat 8 j.val]) → s.Commandable h j →
    let k := (s.job j).seq
    let q := s.seqs.at k
    ((s.job j).state ≠ .idle → (s.job j).state ≠ .done →
      exec (.deleteJob h [BitVec.ofNat 8 j.val]) s = .next (s.respond h .wrongState [])) ∧
    ((s.job j).state = .idle ∨ (s.job j).state = .done →
      exec (.deleteJob h [BitVec.ofNat 8 j.val]) s = .next (State.respond { s with
        jobs := s.jobs.put j Job.free
        seqs := s.seqs.put k (if q.owner = none ∧ q.refCount ≤ 1 then Seq.free
          else { q with refCount := q.refCount - 1 })
        freeSteps := if q.owner = none ∧ q.refCount ≤ 1 then s.freeSteps + q.steps.length else s.freeSteps
        windows := s.windows.put h ((s.windows.get h).map fun w =>
          if w.action = .startJob j then { w with action := .notify } else w)
        waiting := s.waiting.filter fun p => p.job != j } h .ok []))

/-- JOB_STATUS reports the record in the 26 bytes of Table 12-9 and changes nothing of the part: the draw behind the
latch timestamp, open while no latch is present, is the model's (R21, log 14), and bits that the table gives to nothing
are 0 (log 28). -/
def Obligations.JobStatusReportsTheRecord : Prop :=
  ∀ (h : HostId) (s : State) (j : JobId), s.Offered h (.jobStatus h [BitVec.ofNat 8 j.val]) → s.Commandable h j →
    let r := s.job j
    ∃ p : List Byte, exec (.jobStatus h [BitVec.ofNat 8 j.val]) s = .next (s.drawn.respond h .ok p) ∧ p.length = 26 ∧
      numberAt p 0 1 = j.val ∧
      numberAt p 1 1 = r.state.code + 16 * hostCode h + 64 * r.cls.code + 128 * bit r.blocked ∧
      numberAt p 2 1 = r.seq.val + 32 * r.priority.val + 128 * r.resume.code ∧
      numberAt p 3 1 = r.source.code + 8 * r.busy.code + 16 * r.repeatMode.code + 64 * r.late.code +
        128 * r.overflow.code ∧
      numberAt p 4 1 = (match r.repeatMode with | .count n => n % 256 | _ => 0) ∧
      numberAt p 5 3 = r.period.getD 0 % 16777216 ∧ numberAt p 8 2 = r.deadline.getD 0 % 65536 ∧
      numberAt p 10 1 = r.runsRemaining % 256 ∧
      numberAt p 11 1 = bit r.latch.isSome + 2 * bit r.deadlineMissed + 4 * bit r.disarmPending +
        8 * stopCode r.stopReason ∧
      (∀ stamp, r.latch = some stamp → numberAt p 12 4 = stamp.toNat) ∧
      numberAt p 16 1 = r.missed % 256 ∧ numberAt p 17 2 = r.runNumber.toNat ∧
      numberAt p 19 4 = r.triggerTime.toNat ∧ numberAt p 23 1 = r.nextStep % 256 ∧
      (∀ f, r.fillFrame = some f → numberAt p 24 1 = f.val) ∧ (r.fillFrame = none → numberAt p 24 1 = 255) ∧
      numberAt p 25 1 = r.preemptCount % 256

/-! ### Trigger Unit -/

/-- A rise of a line seen low makes its level high and fixes a presentation, stamped with the moment of the edge, for
each non-FREE job of the line's source in ascending job id: of the line's host for a TRIG line, with no edge mark; of
any host for an XT line, with the edge's mark when there are two or more. A line seen high gives no edge, and a fall
gives none (R77, R78, R79, R80). -/
def Obligations.LineEdgesAreRecognised : Prop :=
  ∀ s : State, s.inReset = false →
    (∀ h : HostId,
      (s.levels.trig.get h = true → exec (.trigEdge h) s = .next s) ∧
      (s.levels.trig.get h = false → exec (.trigEdge h) s = .next { s with
        levels := { s.levels with trig := s.levels.trig.put h true }
        waiting := s.waiting ++ (allJobs.filter fun j =>
          decide ((s.job j).state ≠ .free ∧ (s.job j).source = .hostLine ∧ (s.job j).owner = h)).map
            fun j => ⟨.line (.trig h), j, .hostLine, s.timeBase, none⟩ }) ∧
      exec (.triggerLineFallingEdge (.trig h)) s = .next { s with
        levels := { s.levels with trig := s.levels.trig.put h false } }) ∧
    (∀ n : XtLine,
      let jobs := allJobs.filter fun j => decide ((s.job j).state ≠ .free ∧ (s.job j).source = .xt n)
      (s.levels.xt.at n = true → exec (.xtEdge n) s = .next s) ∧
      (s.levels.xt.at n = false → exec (.xtEdge n) s = .next { s with
        levels := { s.levels with xt := s.levels.xt.put n true }
        waiting := s.waiting ++ jobs.map fun j => ⟨.line (.xt n), j, .xt n, s.timeBase,
          if 2 ≤ jobs.length then some ⟨n, s.timeBase⟩ else none⟩ }) ∧
      exec (.triggerLineFallingEdge (.xt n)) s = .next { s with
        levels := { s.levels with xt := s.levels.xt.put n false } })

/-- The oldest presentation of an origin, which is the model's order (log 7), is taken by its job's state: ignored,
moving an ARMED job to PENDING, also when the edge was recognised before the ARM_JOB, which is the model's reading of
R81 and R90 against R86's words (log 27), or busy-handled (R6, R81, R86, R87, R88, Table 4-3). A deadline that has
passed at the entry expires in the same step (R44, R46, log 9), and the entry of an ARMED job reaches the Dispatcher
even when its run is dropped so (log 10). With the converter free and further presentations of the same edge waiting,
the free decision comes before the next of them or after it, as R81 leaves open, and a free value says which (log 30);
a decision still due is taken with the last presentation. With none waiting nothing happens (log 2). -/
def Obligations.PresentedTriggersAreTaken : Prop :=
  ∀ (s : State) (o : Origin), s.inReset = false →
    (s.waiting.find? (fun p => p.origin == o) = none → exec (.triggerPresented o) s = .next s) ∧
    (∀ p : Presentation, s.waiting.find? (fun p => p.origin == o) = some p →
      let u := { s with waiting := s.waiting.erase p }
      let r := s.job p.job
      let i := Instr.triggerPresented o
      let goesOn := o ≠ .window ∧ ∃ q ∈ s.waiting.erase p, q.origin = o ∧ q.stamp = p.stamp
      let free := s.engine.state = .idle ∨ s.engine.state = .fault
      let settled := fun t : State => if s.decisionDue = true ∧ ¬ goesOn then t.freeDecision else t
      ((r.state = .free ∨ r.state = .idle ∨ r.state = .done ∨
          r.state = .stopping ∧ r.stopReason = some .teardown) →
        exec i s = .next (settled u)) ∧
      (r.state = .armed → p.job ∉ s.queue →
        let entered := u.entering p.job (r.triggered p.stamp p.mark)
        (¬ (goesOn ∧ free) → exec i s = .next (entered.entryArrival r.cls)) ∧
        (goesOn → free → exec i s = .next (if Config.decisionWaits s.draws = true
          then { entered with draws := s.draws + 1, decisionDue := true }
          else State.freeDecision { entered with draws := s.draws + 1 }))) ∧
      (r.state.busy = true → ¬(r.state = .stopping ∧ r.stopReason = some .teardown) →
        exec i s = .next (settled (u.busyHandled p.job p.source p.stamp))))

/-- A period expiry sets the next expiry of the grid at once, whatever the trigger does, and presents a trigger
stamped with the expiry value (R77, R83, R86, R87). Before its expiry value a timer does not expire, and a stopped one
never (log 2); a deadline that has passed at an entry expires in the same step (R44, R46, log 9), and the entry
reaches the Dispatcher even when its run is dropped so (log 10); a value less than 2^31 µs back is read as reached
(R76, log 3). -/
def Obligations.PeriodExpiryKeepsTheGrid : Prop :=
  ∀ (s : State) (j : JobId), s.inReset = false →
    let r := s.job j
    (r.periodTimer = none → exec (.periodExpiry j) s = .next s) ∧
    (∀ (e : Time) (p : Nat), r.periodTimer = some e → r.period = some p →
      let next : Option Time := some (e + BitVec.ofNat 32 p)
      let u := s.setJob j { r with periodTimer := next }
      (2 ^ 31 ≤ (s.timeBase - e).toNat → exec (.periodExpiry j) s = .next s) ∧
      ((s.timeBase - e).toNat < 2 ^ 31 →
        ((r.state = .free ∨ r.state = .idle ∨ r.state = .done ∨
            r.state = .stopping ∧ r.stopReason = some .teardown) →
          exec (.periodExpiry j) s = .next u) ∧
        (r.state = .armed → j ∉ s.queue →
          exec (.periodExpiry j) s = .next (State.entryArrival
            (s.entering j { r.triggered e none with periodTimer := next }) r.cls)) ∧
        (r.state.busy = true → ¬(r.state = .stopping ∧ r.stopReason = some .teardown) →
          exec (.periodExpiry j) s = .next (u.busyHandled j .period e))))

/-! ### Dispatcher -/

/-- An entering job goes immediately before the first queued entry it precedes, else to the tail, and its blocked
indication is clear; the keys of Table 2-1 decide which entry precedes (R24, R25, R26, R29). -/
def Obligations.QueueEntriesAreOrdered : Prop :=
  (∀ (now : Time) (a b : Job) (ja jb : JobId), precedes now a b ja jb = true ↔
    (a.cls = .urgent ∧ b.cls = .routine) ∨
    (a.cls = b.cls ∧ b.priority < a.priority) ∨
    (a.cls = b.cls ∧ a.priority = b.priority ∧ a.state = .preempted ∧ b.state ≠ .preempted) ∨
    (a.cls = b.cls ∧ a.priority = b.priority ∧ a.state = b.state ∧
      ((now - b.stamp.time).toNat < (now - a.stamp.time).toNat ∨
       ((now - a.stamp.time).toNat = (now - b.stamp.time).toNat ∧ a.stamp.mark ≠ none ∧
        a.stamp.mark = b.stamp.mark ∧ ja < jb)))) ∧
  (∀ (s : State) (j : JobId), j ∉ s.queue → ∃ before after : List JobId,
    s.queue = before ++ after ∧
    (∀ k ∈ before, precedes s.timeBase (s.job j) (s.job k) j k = false) ∧
    (∀ k ∈ after.head?, precedes s.timeBase (s.job j) (s.job k) j k = true) ∧
    s.enqueue j = { s with
      queue := before ++ [j] ++ after, jobs := s.jobs.put j { s.job j with blocked := false } })

/-- A free decision that gives no job the converter: it starts a calibration when one is due (in IDLE) or requested (in
IDLE and FAULT), and otherwise, with no eligible entry or in FAULT, selects nothing; in each case it refreshes the
blocked indications by the tests of R27 and changes nothing else but that no decision is due any more (log 30). With the
converter taken no decision is made (R27 to R31, R34, R43, R119). -/
def Obligations.FreeDecisionCalibratesOrWaits : Prop :=
  (∀ (s : State) (j : JobId), s.heldBack j = true ↔
    (s.job j).cls = .routine ∧ ∃ g : GroupId, (s.seqOf j).touches g = true ∧ (s.groups.at g).host ≠ (s.job j).owner ∧
      ((s.groups.at g).state = .held ∨ (s.groups.at g).state = .pending ∧ (s.job j).state = .pending)) ∧
  (∀ (s : State), ∃ t : State, t = { s with jobs := t.jobs, decisionDue := false } ∧
    (∀ j : JobId, t.job j = if j ∈ s.queue then { s.job j with blocked := s.heldBack j } else s.job j) ∧
    (let e := s.engine
     let requested := e.requesters.h0 = true ∨ e.requesters.h1 = true ∨ e.requesters.h2 = true
     let calibrating := { t with engine := { e with
       state := .calibrating, served := e.requesters, requesters := ⟨false, false, false⟩, startCount := e.counter
       calStart := s.timeBase
       cause := if requested then .requested else if e.effective + 64 ≤ e.counter then .overdue else .due } }
     (e.state = .idle → (e.effective ≤ e.counter ∨ requested) → s.freeDecision = calibrating) ∧
     (e.state = .fault → requested → s.freeDecision = calibrating) ∧
     (e.state = .fault → ¬ requested → s.freeDecision = t) ∧
     (e.state = .idle → e.counter < e.effective → ¬ requested → (∀ j ∈ s.queue, s.heldBack j = true) →
       s.freeDecision = t) ∧
     (e.state ≠ .idle → e.state ≠ .fault → s.freeDecision = s)))

/-- The order in which a free decision gives the converter to a new run of a PENDING job, with the frame at the head of
the pool or, at the allowance under RECLAIM, the owner's oldest undelivered one. The run takes its number, frame, header
and transient claim; a ROUTINE job enters the occupant sets of the groups it touches, and the holders of groups an
URGENT job intrudes on are told; the job enters RUNNING with step 0 started when the settled level, after the claim,
meets the minimum, and SETTLING otherwise. Nothing else changes but the blocked indications and the decision that was
due (log 30); the new frame's sample slots, whose valid marks are clear, hold fillers (log 5) (R7, R31, R32, R54, R58,
R60, R61, R109, R128, R139, R146). -/
def Obligations.SelectedRunStarts : Prop :=
  ∀ (s : State) (j : JobId) (f : FrameId) (x : SeqStep) (before rest : List JobId)
    (pool : List FrameId) (inUse : PerHost Nat) (delivery : PerHost (List FrameId)) (told : PerHost EventQueue),
    let r := s.job j
    let run := r.runNumber + 1
    let lost := s.frames.at f
    s.FreeForJobs → s.FirstEligible before j rest → r.state = .pending → (s.seqOf j).steps.head? = some x →
    (s.inUse.get r.owner < s.allowance.get r.owner ∧ s.pool = f :: pool ∧
        inUse = s.inUse.put r.owner (s.inUse.get r.owner + 1) ∧ delivery = s.delivery ∧ told = s.events ∨
      s.allowance.get r.owner ≤ s.inUse.get r.owner ∧ r.overflow = .reclaim ∧ pool = s.pool ∧ inUse = s.inUse ∧
        s.delivery.get r.owner = f :: delivery.get r.owner ∧
        delivery = s.delivery.put r.owner (delivery.get r.owner) ∧
        told = s.events.put r.owner ((s.events.get r.owner).push
          ⟨s.timeBase, some lost.job, some f, .frameReclaimed lost.run j run⟩)) →
    let exc := Excitation.recompute
      { s.exc with transient := s.exc.transient.put j (some (s.seqOf j).minimum) } s.timeBase
    let settled := (s.seqOf j).minimum.rank ≤ exc.settled.rank
    ∃ t : State, s.freeDecision = t ∧
      t = { s with
        queue := before ++ rest, decisionDue := false, pool := pool, inUse := inUse, delivery := delivery, exc := exc
        frames := s.frames.put f ⟨.filling, r.owner, j, run, r.triggerTime, false, false, false, 0, 0,
          (s.seqOf j).steps.length, Vector.replicate 16 Sample.empty⟩
        engine := if settled then s.engine.starting j 0 x s.timeBase else s.engine.settlingFor j
        jobs := t.jobs, groups := t.groups, events := t.events } ∧
      t.job j = { r with
        state := if settled then .running else .settling, runNumber := run, fillFrame := some f, nextStep := 0
        preemptCount := 0, blocked := false } ∧
      (∀ k : JobId, k ≠ j →
        t.job k = if k ∈ s.queue then { s.job k with blocked := s.heldBack k } else s.job k) ∧
      (∀ g : GroupId, t.groups.at g =
        if r.cls = .routine ∧ (s.seqOf j).touches g = true then
          { s.groups.at g with occupants := (s.groups.at g).occupants.put j true }
        else s.groups.at g) ∧
      (∀ h : HostId, t.events.get h =
        (allGroups.filter fun g => decide (r.cls = .urgent ∧ (s.seqOf j).touches g = true ∧
          (s.groups.at g).state = .held ∧ (s.groups.at g).host = h ∧ h ≠ r.owner)).foldl
            (fun q g => q.push ⟨s.timeBase, some j, none, .holdIntruded g r.owner run⟩) (told.get h))

/-- A selected run whose frame is refused leaves the queue, takes the run number, reports FRAME_OVERRUN and ends
counted with no frame and no claim, its latch consumed or discarded by the run end (a deadline counted from it that
has passed expires in the same step, log 9); then selection begins again from the head of the queue, until it finds no
eligible entry (R8, R32, R33, R59). For the only entry of the queue, with no latch: DONE with JOB_DONE when the repeat
mode is satisfied and ARMED otherwise, and the converter stays free (R14, R34). -/
def Obligations.RefusedFrameEndsTheRun : Prop :=
  (∀ (s : State) (j : JobId),
    let r := s.job j
    s.FreeForJobs → s.queue = [j] → s.heldBack j = false → r.state = .pending → r.disarmPending = false →
    r.latch = none → s.allowance.get r.owner ≤ s.inUse.get r.owner →
    (r.overflow = .refuse ∨ s.delivery.get r.owner = []) →
    let run := r.runNumber + 1
    let told := (s.events.get r.owner).push ⟨s.timeBase, some j, none, .frameOverrun run r.overflow⟩
    let left := match r.repeatMode with
      | .count _ => r.runsRemaining - 1
      | _ => r.runsRemaining
    ((r.repeatMode = .oneShot ∨ (∃ n, r.repeatMode = .count n) ∧ left = 0) →
      s.freeDecision = { s with
        queue := [], decisionDue := false
        jobs := s.jobs.put j { r with
          state := .done, runNumber := run, runsRemaining := left, stopReason := none, deadlineTimer := none
          periodTimer := none, blocked := false }
        events := s.events.put r.owner (told.push ⟨s.timeBase, some j, none, .jobDone run r.missed⟩) }) ∧
    ((r.repeatMode = .continuous ∨ (∃ n, r.repeatMode = .count n) ∧ left ≠ 0) →
      s.freeDecision = { s with
        queue := [], decisionDue := false
        jobs := s.jobs.put j { r with
          state := .armed, runNumber := run, runsRemaining := left, stopReason := none, deadlineTimer := none
          blocked := false }
        events := s.events.put r.owner told })) ∧
  (∀ s : State, s.FreeForJobs → s.freeDecision = (State.refreshBlocked { s with decisionDue := false }).select) ∧
  (∀ s : State, (∀ k ∈ s.queue, s.heldBack k = true) → s.select = s) ∧
  (∀ (s : State) (j : JobId) (before rest : List JobId),
    let r := s.job j
    let run := r.runNumber + 1
    s.FirstEligible before j rest → r.state = .pending → s.allowance.get r.owner ≤ s.inUse.get r.owner →
    (r.overflow = .refuse ∨ s.delivery.get r.owner = []) →
    s.select = State.select (State.endRun { s with
      queue := before ++ rest
      jobs := s.jobs.put j { r with runNumber := run, deadlineTimer := none, blocked := false }
      events := s.events.put r.owner ((s.events.get r.owner).push
        ⟨s.timeBase, some j, none, .frameOverrun run r.overflow⟩) } j))

/-- A free decision that selects a PREEMPTED job continues its run with its frame and claim: under RESUME at its next
step, under RESTART at step 0 with the frame's valid marks clear and its restarted flag set. The job enters RUNNING when
the settled level meets the minimum and SETTLING otherwise (R12, R32, R63, R109). -/
def Obligations.ReselectedRunContinues : Prop :=
  ∀ (s : State) (j : JobId) (f : FrameId) (x : SeqStep) (before rest : List JobId),
    let r := s.job j
    let index := match r.resume with
      | .resume => r.nextStep
      | .restart => 0
    let settled := (s.seqOf j).minimum.rank ≤ s.exc.settled.rank
    s.FreeForJobs → s.FirstEligible before j rest → r.state = .preempted → r.fillFrame = some f →
    (s.seqOf j).steps[index]? = some x →
    ∃ t : State, s.freeDecision = t ∧
      t = { s with
        queue := before ++ rest, decisionDue := false
        frames := if r.resume = .restart then s.frames.put f { s.frames.at f with
            restarted := true, samples := (s.frames.at f).samples.map fun y => { y with valid := false } }
          else s.frames
        engine := if settled then s.engine.starting j index x s.timeBase else s.engine.settlingFor j
        jobs := t.jobs } ∧
      t.job j = { r with
        state := if settled then .running else .settling, nextStep := index, blocked := false } ∧
      (∀ k : JobId, k ≠ j →
        t.job k = if k ∈ s.queue then { s.job k with blocked := s.heldBack k } else s.job k)

/-- An arrival causes a free decision exactly when the converter is free. An URGENT entry, and a change of the interval
that makes calibration overdue, displace a settling ROUTINE job first: it becomes PREEMPTED with its claim and frame
kept, its preempt count rises, it enters the queue, and the converter is free. An URGENT job that settles is not
displaced (R11, R30, R38, R39, R41). -/
def Obligations.ArrivalsDecideOrDisplace : Prop :=
  ∀ s : State,
    ((s.engine.state = .idle ∨ s.engine.state = .fault) → s.arrival = s.freeDecision) ∧
    (s.engine.state ≠ .idle → s.engine.state ≠ .fault → s.arrival = s) ∧
    (∀ k : JobId, s.engine.state = .settling → s.engine.settlingJob = some k →
      let displaced := State.freeDecision { ((s.setJob k { s.job k with
          state := .preempted, preemptCount := min 255 ((s.job k).preemptCount + 1) }).enqueue k) with
        engine := s.engine.released }
      ((s.job k).cls = .routine →
        s.entryArrival .urgent = displaced ∧ s.entryArrival .routine = s ∧
        s.intervalArrival = if s.engine.effective + 64 ≤ s.engine.counter then displaced else s) ∧
      ((s.job k).cls = .urgent →
        s.entryArrival .urgent = s ∧ s.entryArrival .routine = s ∧ s.intervalArrival = s)) ∧
    (s.engine.state ≠ .settling → s.intervalArrival = s.arrival ∧ ∀ c : JobClass, s.entryArrival c = s.arrival)

/-- A counted run end counts the run, chooses DONE, IDLE or ARMED, reports DONE, and handles the latch: consumed into a
new PENDING run at ARMED, discarded and counted otherwise. A deadline counted from the latch that has passed already is
reported at once; KEEP marks the new run late, and DROP ends it counted in its turn with its own run number. That this
expiry is taken in the same step is log 9 (R14, R15, R16, R44, R46, R47). -/
def Obligations.CountedRunEndFollowsTheMode : Prop :=
  ∀ (s : State) (j : JobId),
    let r := s.job j
    (r.endState ≠ .armed ∨ r.latch = none →
      s.endRun j = { s with
        jobs := s.jobs.put j r.ended
        events := if r.endState = .done then s.events.put r.owner ((s.events.get r.owner).push
            ⟨s.timeBase, some j, none, .jobDone r.runNumber r.ended.missed⟩)
          else s.events }) ∧
    (∀ stamp : Time, r.endState = .armed → r.latch = some stamp →
      let next := r.ended.triggered stamp none
      (¬ r.PastDeadline stamp s.timeBase → s.endRun j = (s.setJob j next).enqueue j) ∧
      (r.PastDeadline stamp s.timeBase → j ∉ s.queue →
        let told := (s.events.get r.owner).push
          ⟨s.timeBase, some j, r.fillFrame, .deadlineMissed (r.runNumber + 1) r.late .pending⟩
        (r.late = .keep → s.endRun j = State.enqueue { s with
          jobs := s.jobs.put j { next with deadlineTimer := none, deadlineMissed := true }
          events := s.events.put r.owner told } j) ∧
        (r.late = .drop →
          let dropped : Job := { next with
            runNumber := r.runNumber + 1, deadlineTimer := none, blocked := false }
          s.endRun j = { s with
            jobs := s.jobs.put j dropped.ended
            events := s.events.put r.owner (if dropped.endState = .done then
              told.push ⟨s.timeBase, some j, none, .jobDone dropped.runNumber 0⟩ else told) })))

/-- A ROUTINE job that leaves the occupant sets it stands in lets go of exactly the groups its sequence touches; each
group PENDING with no foreign occupant left becomes HELD for its host with the lease running, and HOLD_GRANTED is queued
for that host. Of several grants to one host the order is open (log 12). An URGENT job stands in none (R139, R141). -/
def Obligations.LeavingGroupsGrantsHolds : Prop :=
  ∀ (s : State) (j : JobId),
    ((s.job j).cls = .urgent → s.vacate j = s) ∧
    ((s.job j).cls = .routine →
      let granted := fun g : GroupId => (s.seqOf j).touches g = true ∧ (s.groups.at g).occupants.at j = true ∧
        (s.groups.at g).state = .pending ∧
        ∀ k : JobId, k ≠ j → (s.groups.at g).occupants.at k = true → (s.job k).owner = (s.groups.at g).host
      let expiry := fun g : GroupId => s.timeBase + BitVec.ofNat 32 (1000 * (s.groups.at g).lease)
      ∃ t : State, s.vacate j = t ∧
        t = { s with groups := t.groups, events := t.events, draws := t.draws } ∧
        (∀ g : GroupId, ¬ granted g → t.groups.at g = s.groupWithout j g) ∧
        (∀ g : GroupId, granted g →
          t.groups.at g = { s.groupWithout j g with state := .held, expiry := expiry g }) ∧
        (∀ h : HostId, ∃ order : List GroupId, order.Nodup ∧
          (∀ g : GroupId, g ∈ order ↔ granted g ∧ (s.groups.at g).host = h) ∧
          t.events.get h = order.foldl (fun q g =>
            q.push ⟨s.timeBase, none, none, .holdGranted g (s.groups.at g).lease (expiry g)⟩) (s.events.get h)))

/-! ### Conversion Engine: steps -/

/-- A step of a RUNNING job that completes before the last: the sample stands in the slot of its step with its code,
stale mark and zone, the Window Unit judges it, the conversion is counted and next step advances. An URGENT job goes on
at once; a ROUTINE job goes on unless an URGENT entry waits or calibration is overdue, and then becomes PREEMPTED and
frees the converter. With no step in progress, or before its time has come, nothing happens (log 2); a moment less than
2^31 µs back is read as reached (R76, log 3) (R10, R11, R35, R36, R62, R109, R111). -/
def Obligations.StepCompletionAtABoundary : Prop :=
  (∀ (s : State) (code : BitVec 12), s.inReset = false →
    (s.engine.step = none ∨ (∃ p, s.engine.step = some p ∧
      2 ^ 31 ≤ (s.timeBase - (p.start + BitVec.ofNat 32 (3 + p.settle.val))).toNat)) →
    exec (.stepComplete code) s = .next s) ∧
  (∀ (s : State) (code : BitVec 12) (p : StepInProgress) (f : FrameId) (n : Fin 16) (y x : SeqStep),
    let j := p.job
    let r := s.job j
    let routine := r.cls = .routine
    s.StepEnds p → r.state = .running → r.fillFrame = some f → j ∉ s.queue → r.nextStep = n.val →
    (s.seqOf j).steps[p.index]? = some y → (s.seqOf j).steps[n.val + 1]? = some x →
    let sampled := { s with
      engine := s.engine.counted
      frames := s.frames.put f { s.frames.at f with
        samples := (s.frames.at f).samples.put n
          ⟨true, n.val, p.channel, p.gain, code, s.engine.stale, s.zoneFor r.owner y.window code⟩ } }
    let judged := sampled.judge j y.window p.index p.channel code
    let here := State.refreshBlocked (judged.setJob j { r with nextStep := n.val + 1 })
    let leaves := routine ∧ ((∃ k ∈ s.queue, (s.job k).cls = .urgent) ∨
      s.engine.effective + 64 ≤ min 65599 (s.engine.counter + 1))
    (¬ leaves → exec (.stepComplete code) s = .next { here with
      engine := s.engine.counted.starting j (n.val + 1) x s.timeBase }) ∧
    (leaves → exec (.stepComplete code) s = .next (State.freeDecision { ((here.setJob j { r with
        nextStep := n.val + 1, state := .preempted, preemptCount := min 255 (r.preemptCount + 1) }).enqueue j) with
      engine := s.engine.counted.released })))

/-- The completion of the last step: the sample is written and judged, the frame is finished and joins the tail of its
owner's delivery queue, RUN_COMPLETE is queued, the claim goes, the job leaves its groups, where holds that waited for
it may be granted (R141), the run ends counted, and a free decision follows the release of the converter (R10, R13,
R65, R111, R112). Next step reads the step count then (log 11), a deadline counted from the latch that has passed
expires in the same step (log 9), and a moment less than 2^31 µs back is read as reached (R76, log 3). -/
def Obligations.LastStepCompletesTheRun : Prop :=
  ∀ (s : State) (code : BitVec 12) (p : StepInProgress) (f : FrameId) (n : Fin 16) (y : SeqStep),
    let j := p.job
    let r := s.job j
    s.StepEnds p → r.state = .running → r.fillFrame = some f → r.nextStep = n.val →
    (s.seqOf j).steps[p.index]? = some y → (s.seqOf j).steps.length = n.val + 1 →
    let samples := (s.frames.at f).samples.put n
      ⟨true, n.val, p.channel, p.gain, code, s.engine.stale, s.zoneFor r.owner y.window code⟩
    let judged := State.judge { s with
        engine := s.engine.counted, frames := s.frames.put f { s.frames.at f with samples := samples } }
      j y.window p.index p.channel code
    let delivered := { judged with
        jobs := s.jobs.put j { r with nextStep := n.val + 1, fillFrame := none, deadlineTimer := none }
        frames := s.frames.put f { s.frames.at f with
          samples := samples, state := .complete, missedCount := r.missed, preemptCount := r.preemptCount
          deadlineMissed := r.deadlineMissed, stalePresent := samples.toList.any fun a => a.valid && a.stale }
        delivery := s.delivery.put r.owner (s.delivery.get r.owner ++ [f])
        events := judged.events.put r.owner ((judged.events.get r.owner).push
          ⟨s.timeBase, some j, some f, .runComplete r.runNumber⟩)
        exc := s.excWithout j }
    exec (.stepComplete code) s = .next (State.freeDecision { ((delivered.vacate j).endRun j) with
      engine := s.engine.counted.released })

/-- The completion of the last step of a job in STOPPING: nothing is written, classified or delivered; the frame returns
to the pool's tail, claim and deadline timer go, the job leaves its groups, where holds that waited for it may be
granted (R141), and the stop reason decides: ABORT reports JOB_ABORTED and leaves the job IDLE or ARMED, where a latch
set since is consumed; LATE is a counted run end; TEARDOWN frees the record. A free decision follows (R15, R16, R17,
R18, R71). The fields of the freed frame are fillers (log 21), a moment less than 2^31 µs back is read as reached (R76,
log 3), and a deadline counted from the latch that has passed expires in the same step (log 9). -/
def Obligations.StoppingExitFollowsTheReason : Prop :=
  ∀ (s : State) (code : BitVec 12) (p : StepInProgress) (f : FrameId),
    let j := p.job
    let r := s.job j
    let engine := s.engine.counted.released
    s.StepEnds p → r.state = .stopping → r.fillFrame = some f →
    let t := State.vacate { s with
        engine := s.engine.counted
        jobs := s.jobs.put j { r with fillFrame := none, deadlineTimer := none }
        frames := s.frames.put f Frame.free, pool := s.pool ++ [f]
        inUse := s.inUse.put r.owner (s.inUse.get r.owner - 1), exc := s.excWithout j } j
    (r.stopReason = some .abort →
      let aborted : Job := { r with
        fillFrame := none, deadlineTimer := none, stopReason := none, disarmPending := false
        state := if r.disarmPending then .idle else .armed
        periodTimer := if r.disarmPending then none else r.periodTimer }
      let told := t.emit r.owner (some j) none (.jobAborted r.runNumber r.missed)
      (r.disarmPending = true ∨ r.latch = none → exec (.stepComplete code) s = .next
        (State.freeDecision { (told.setJob j aborted) with engine := engine })) ∧
      (∀ stamp : Time, r.disarmPending = false → r.latch = some stamp → j ∉ s.queue →
        exec (.stepComplete code) s = .next (State.freeDecision
          { (told.entering j (aborted.triggered stamp none)) with engine := engine }))) ∧
    (r.stopReason = some .late → exec (.stepComplete code) s = .next
      (State.freeDecision { (t.endRun j) with engine := engine })) ∧
    (r.stopReason = some .teardown → exec (.stepComplete code) s = .next
      (State.freeDecision { (t.freeJob j) with engine := engine }))

/-- DEADLINE_EXPIRY. The expiry is reported once with the run's number, frame and state, and uses the timer up. KEEP
marks the run late. DROP ends it: a PENDING run takes its number and ends counted; a RUNNING job enters STOPPING with
reason LATE; from SETTLING and PREEMPTED the frame returns to the pool, the claim goes, the job leaves its groups,
where holds that waited for it may be granted (R141), and the run ends counted. In STOPPING the expiry changes nothing
but the timer, which is log 23; before its moment a timer does not expire (log 2), and a moment less than 2^31 µs back
is read as reached (R76, log 3). A PENDING run that re-enters by its latch is an entry even when it is dropped in its
turn, in the same step (log 9, log 10), and the fields of a freed frame are fillers (log 21) (R16, R44, R45, R46,
R47). -/
def Obligations.DeadlineExpiryByState : Prop :=
  ∀ (s : State) (j : JobId), s.inReset = false →
    let r := s.job j
    let i := Instr.deadlineExpiry j
    (r.deadlineTimer = none → exec i s = .next s) ∧
    (∀ e : Time, r.deadlineTimer = some e →
      (2 ^ 31 ≤ (s.timeBase - e).toNat → exec i s = .next s) ∧
      ((s.timeBase - e).toNat < 2 ^ 31 →
        let told := s.emit r.owner (some j) r.fillFrame (.deadlineMissed
          (if r.state = .pending then r.runNumber + 1 else r.runNumber) r.late r.state)
        ((r.state = .free ∨ r.state = .idle ∨ r.state = .armed ∨ r.state = .done) → exec i s = .next s) ∧
        (r.state = .stopping → exec i s = .next (s.setJob j { r with deadlineTimer := none })) ∧
        (r.late = .keep →
          (r.state = .pending ∨ r.state = .settling ∨ r.state = .running ∨ r.state = .preempted) →
          exec i s = .next (told.setJob j { r with deadlineTimer := none, deadlineMissed := true })) ∧
        (r.late = .drop →
          (r.state = .running → exec i s = .next (told.setJob j { r with
            deadlineTimer := none, state := .stopping, stopReason := some .late })) ∧
          (r.state = .pending →
            let ended := State.endRun { (told.setJob j { r with
              deadlineTimer := none, blocked := false, runNumber := r.runNumber + 1 }) with
              queue := s.queue.erase j } j
            exec i s = .next
              (if r.endState = .armed ∧ r.latch ≠ none then ended.entryArrival r.cls else ended)) ∧
          (∀ f : FrameId, r.fillFrame = some f →
            let t := State.vacate { told with
              jobs := s.jobs.put j { r with
                fillFrame := none, deadlineTimer := none
                blocked := if r.state = .preempted then false else r.blocked }
              frames := s.frames.put f Frame.free, pool := s.pool ++ [f]
              inUse := s.inUse.put r.owner (s.inUse.get r.owner - 1), exc := s.excWithout j
              queue := if r.state = .preempted then s.queue.erase j else s.queue } j
            (r.state = .settling → exec i s = .next
              (State.freeDecision (State.endRun { t with engine := s.engine.released } j))) ∧
            (r.state = .preempted → exec i s = .next (t.endRun j).arrival)))))

/-! ### Result Store -/

/-- FETCH_FRAME answers EMPTY with nothing to fetch; otherwise the head frame goes into the payload of Table 12-7 and
returns to the pool's tail, which is an arrival. FLUSH_FRAMES returns the whole delivery queue, head first, and answers
its length; one that frees nothing is no arrival (R30, R67, R68). The fields of a freed frame are fillers (log 21). -/
def Obligations.FetchAndFlushReturnFrames : Prop :=
  (∀ (h : HostId) (s : State), s.Offered h (.fetchFrame h []) →
    (s.delivery.get h = [] → exec (.fetchFrame h []) s = .next (s.respond h .empty [])) ∧
    (∀ (f : FrameId) (rest : List FrameId), s.delivery.get h = f :: rest →
      let r := s.frames.at f
      ∃ p : List Byte, exec (.fetchFrame h []) s = .next (State.respond (State.arrival { s with
          frames := s.frames.put f Frame.free, pool := s.pool ++ [f]
          inUse := s.inUse.put h (s.inUse.get h - 1), delivery := s.delivery.put h rest }) h .ok p) ∧
        numberAt p 0 1 = f.val ∧ numberAt p 1 1 = r.job.val ∧ numberAt p 2 2 = r.run.toNat ∧
        numberAt p 4 4 = r.triggerTime.toNat ∧
        numberAt p 8 1 = bit r.deadlineMissed + 2 * bit r.stalePresent + 4 * bit r.restarted ∧
        numberAt p 9 1 = r.preemptCount % 256 ∧ numberAt p 10 1 = r.missedCount % 256 ∧
        numberAt p 11 1 = r.sampleCount % 256 ∧
        (r.sampleCount ≤ 16 → p.length = 12 + 3 * r.sampleCount) ∧
        (∀ k : Fin 16, k.val < r.sampleCount →
          let y := r.samples.at k
          numberAt p (12 + 3 * k.val) 1 = 16 * y.channel.val + 4 * y.gain.code + y.zone.code ∧
          numberAt p (13 + 3 * k.val) 2 = 32768 * bit y.stale + y.code.toNat))) ∧
  (∀ (h : HostId) (s : State), s.Offered h (.flushFrames h []) →
    (s.delivery.get h = [] → exec (.flushFrames h []) s = .next (s.respond h .ok [0])) ∧
    (s.delivery.get h ≠ [] → ∃ frames : Table Frame 48,
      (∀ f : FrameId, frames.at f = if f ∈ s.delivery.get h then Frame.free else s.frames.at f) ∧
      exec (.flushFrames h []) s = .next (State.respond (State.arrival { s with
        frames := frames, pool := s.pool ++ s.delivery.get h
        inUse := s.inUse.put h (s.inUse.get h - (s.delivery.get h).length)
        delivery := s.delivery.put h [] }) h .ok [BitVec.ofNat 8 (s.delivery.get h).length])))

/-! ### Window Unit -/

/-- SET_WINDOW loads the caller's window with its limits and action, enabled and with last zone UNKNOWN; an index,
limit or action out of range, limits out of order, and a job that is not one of the caller's are refused (R152, Table
12-4). -/
def Obligations.SetWindowLoadsTheWindow : Prop :=
  ∀ (h : HostId) (s : State) (args : List Byte), s.Offered h (.setWindow h args) →
    let v := fun i => (args.getD i 0).toNat
    let low := numberAt args 1 2
    let high := numberAt args 3 2
    args.length = (if v 5 = 1 then 7 else 6) →
    let ownJob := ∃ j : JobId, v 6 = j.val ∧ s.Commandable h j
    let good := v 0 ≤ 3 ∧ low ≤ high ∧ high ≤ 4095 ∧ (v 5 = 0 ∨ v 5 = 1 ∧ ownJob)
    (¬ good → exec (.setWindow h args) s = .next (s.respond h .badArgument [])) ∧
    (∀ (w : WindowId) (action : WindowAction), good → v 0 = w.val →
      (v 5 = 0 ∧ action = .notify ∨ v 5 = 1 ∧ ∃ j : JobId, v 6 = j.val ∧ action = .startJob j) →
      exec (.setWindow h args) s = .next (State.respond { s with
        windows := s.windows.put h ((s.windows.get h).put w
          ⟨true, BitVec.ofNat 12 low, BitVec.ofNat 12 high, action, .unknown⟩) } h .ok []))

/-- CLEAR_WINDOW disables the caller's window, with last zone UNKNOWN and action NOTIFY, and changes nothing else; an
index above 3 is refused, and every window already disabled stays as it is (R153). -/
def Obligations.ClearWindowDisables : Prop :=
  ∀ (h : HostId) (b : Byte) (s : State), s.Offered h (.clearWindow h [b]) →
    (4 ≤ b.toNat → exec (.clearWindow h [b]) s = .next (s.respond h .badArgument [])) ∧
    (∀ w : WindowId, b.toNat = w.val →
      ((s.window h w).enabled = true ∨ s.WindowSound h w → ∃ low high : BitVec 12,
        exec (.clearWindow h [b]) s = .next
          ((s.setWindow h w ⟨false, low, high, .notify, .unknown⟩).respond h .ok [])) ∧
      ((s.window h w).enabled = false → exec (.clearWindow h [b]) s = .next (s.respond h .ok [])))

/-- A sample is judged against the referenced window of its job's owner. With no reference or a disabled window its zone
is NONE and nothing follows. Otherwise the zone is BELOW, ABOVE or INSIDE, limits included, and becomes the last zone; a
change of zone queues a LIMIT record, but for UNKNOWN to INSIDE; entering BELOW or ABOVE starts a named job of source
WINDOW (R85, R106, R154, R155, R156, Table 9-2). -/
def Obligations.SamplesAreJudgedByTheWindow : Prop :=
  ∀ (s : State) (j : JobId) (index : Nat) (channel : Channel) (code : BitVec 12),
    let r := s.job j
    s.judge j none index channel code = s ∧ s.zoneFor r.owner none code = .none ∧
    (∀ w : WindowId,
      let v := s.window r.owner w
      (v.enabled = false →
        s.judge j (some w) index channel code = s ∧ s.zoneFor r.owner (some w) code = .none) ∧
      (v.enabled = true →
        let zone : Zone := if code < v.low then .below else if v.high < code then .above else .inside
        let last : LastZone := if code < v.low then .below else if v.high < code then .above else .inside
        s.zoneFor r.owner (some w) code = zone ∧
        ∃ (events : PerHost EventQueue) (waiting : List Presentation),
          s.judge j (some w) index channel code = { s with
            windows := s.windows.put r.owner ((s.windows.get r.owner).put w { v with lastZone := last })
            events := events, waiting := waiting } ∧
          events = (if v.lastZone = last ∨ v.lastZone = .unknown ∧ last = .inside then s.events
            else s.events.put r.owner ((s.events.get r.owner).push ⟨s.timeBase, some j, r.fillFrame,
              .limit w index channel code zone v.lastZone r.runNumber⟩)) ∧
          (v.action = .notify → waiting = s.waiting) ∧
          (∀ k : JobId, v.action = .startJob k →
            waiting = if (last = .below ∨ last = .above) ∧ v.lastZone ≠ last ∧ (s.job k).source = .window then
                s.waiting ++ [⟨.window, k, .window, s.timeBase, none⟩]
              else s.waiting)))

/-! ### Hold Manager -/

/-- ACQUIRE_HOLD: its checks in their order; a FREE group with no foreign occupant becomes HELD with the lease running
and its expiry in the payload, and one with foreign occupants PENDING with their number in the payload; both are
arrivals. The expiry of a PENDING group, which no rule gives, reads 0 (log 5) (R138, R139, R140, R142). -/
def Obligations.AcquireHoldTakesAFreeGroup : Prop :=
  ∀ (h : HostId) (b lease : Byte) (s : State), s.Offered h (.acquireHold h [b, lease]) →
    (4 ≤ b.toNat → exec (.acquireHold h [b, lease]) s = .next (s.respond h .badArgument [])) ∧
    (∀ g : GroupId, b.toNat = g.val →
      let r := s.groups.at g
      let foreign := (allJobs.filter fun j =>
        decide (r.occupants.at j = true ∧ (s.job j).owner ≠ h)).length
      let expiry := s.timeBase + BitVec.ofNat 32 (1000 * lease.toNat)
      (lease = 0 → exec (.acquireHold h [b, lease]) s = .next (s.respond h .badArgument [])) ∧
      (lease ≠ 0 →
        (r.state ≠ .free → r.host = h →
          exec (.acquireHold h [b, lease]) s = .next (s.respond h .wrongState [])) ∧
        (r.state ≠ .free → r.host ≠ h →
          exec (.acquireHold h [b, lease]) s = .next (s.respond h .heldByOther [])) ∧
        (r.state = .free → foreign = 0 → exec (.acquireHold h [b, lease]) s = .next (State.respond
          (State.arrival (s.setGroup g { r with
            state := .held, host := h, lease := lease.toNat, expiry := expiry }))
          h .ok (0 :: bytesOf 4 expiry.toNat))) ∧
        (r.state = .free → 0 < foreign → exec (.acquireHold h [b, lease]) s = .next (State.respond
          (State.arrival (s.setGroup g { r with
            state := .pending, host := h, lease := lease.toNat, expiry := 0 }))
          h .pending [BitVec.ofNat 8 foreign]))))

/-- RENEW_HOLD starts the lease of a group HELD by the caller again, answers the new expiry, and changes and reports
nothing else; a group out of range is BAD_ARGUMENT and any other group WRONG_STATE (R143). -/
def Obligations.RenewHoldRestartsTheLease : Prop :=
  ∀ (h : HostId) (b : Byte) (s : State), s.Offered h (.renewHold h [b]) →
    (4 ≤ b.toNat → exec (.renewHold h [b]) s = .next (s.respond h .badArgument [])) ∧
    (∀ g : GroupId, b.toNat = g.val →
      let r := s.groups.at g
      let expiry := s.timeBase + BitVec.ofNat 32 (1000 * r.lease)
      (r.state = .held → r.host = h → exec (.renewHold h [b]) s = .next
        ((s.setGroup g { r with expiry := expiry }).respond h .ok (bytesOf 4 expiry.toNat))) ∧
      ((r.state = .free ∨ r.state = .pending ∨ r.host ≠ h) →
        exec (.renewHold h [b]) s = .next (s.respond h .wrongState [])))

/-- RELEASE_HOLD frees a group HELD by or PENDING for the caller, and a lease that runs out frees its group and tells
the former holder HOLD_EXPIRED; both are arrivals. The host, lease and expiry of a FREE group have no meaning and read
H0, 0 and 0 (log 5). A lease that is not running, or before its moment, does not expire (log 2); a moment less than 2^31
µs back is read as reached (R76, log 3) (R142, R144). -/
def Obligations.HoldsEndByReleaseOrLease : Prop :=
  (∀ (h : HostId) (b : Byte) (s : State), s.Offered h (.releaseHold h [b]) →
    (4 ≤ b.toNat → exec (.releaseHold h [b]) s = .next (s.respond h .badArgument [])) ∧
    (∀ g : GroupId, b.toNat = g.val →
      let r := s.groups.at g
      (r.state ≠ .free → r.host = h → exec (.releaseHold h [b]) s = .next (State.respond
        (State.arrival (s.setGroup g ⟨.free, .h0, 0, 0, r.occupants⟩)) h .ok [])) ∧
      ((r.state = .free ∨ r.host ≠ h) →
        exec (.releaseHold h [b]) s = .next (s.respond h .wrongState [])))) ∧
  (∀ (g : GroupId) (s : State), s.inReset = false →
    let r := s.groups.at g
    (r.state = .held → (s.timeBase - r.expiry).toNat < 2 ^ 31 → exec (.leaseExpiry g) s = .next (State.arrival
      { (s.setGroup g ⟨.free, .h0, 0, 0, r.occupants⟩) with
        events := s.events.put r.host ((s.events.get r.host).push
          ⟨s.timeBase, none, none, .holdExpired g r.lease⟩) })) ∧
    ((r.state ≠ .held ∨ 2 ^ 31 ≤ (s.timeBase - r.expiry).toNat) → exec (.leaseExpiry g) s = .next s))

/-! ### Excitation Controller -/

/-- The output level is recomputed as the highest of all claims. A rise begins a settling toward it with its settle
time; a fall ends at once, ends the settling it brings below the settled level, or redirects a settling that is still
above it, from this moment. An output that stays leaves all as it was (R129, R130, R131, R133, Table 7-2). EXC drives
0 V in reset and the voltage of Table 12-11 for the output level after release (R189); that OFF is 0 V is log 19, and
what the settle expiry holds with no target is log 31. -/
def Obligations.OutputFollowsTheHighestClaim : Prop :=
  (∀ s : State,
    (s.inReset = true ∨ s.exc.output = .off → s.excMillivolts = 0) ∧
    (s.inReset = false → (s.exc.output = .low → s.excMillivolts = 1000) ∧
      (s.exc.output = .mid → s.excMillivolts = 2500) ∧ (s.exc.output = .high → s.excMillivolts = 5000))) ∧
  ∀ (e : Excitation) (now : Time),
    let top := e.claimed
    let settle := match top with
      | .off => 0
      | .low => 40
      | .mid => 80
      | .high => 160
    (∀ h : HostId, (e.standing.get h).rank ≤ top.rank) ∧
    (∀ (j : JobId) (l : Level), e.transient.at j = some l → l.rank ≤ top.rank) ∧
    (top = .off ∨ (∃ h : HostId, e.standing.get h = top) ∨ ∃ j : JobId, e.transient.at j = some top) ∧
    (top = e.output → e.recompute now = e) ∧
    (e.output.rank < top.rank → e.recompute now =
      { e with output := top, target := some top, expiry := now + BitVec.ofNat 32 settle }) ∧
    (top.rank < e.output.rank →
      (e.target = none → e.recompute now =
        { e with output := top, settled := if e.settled.rank < top.rank then e.settled else top }) ∧
      (∀ l : Level, e.target = some l →
        (top.rank ≤ e.settled.rank → e.recompute now =
          { e with output := top, settled := top, target := none }) ∧
        (e.settled.rank < top.rank → e.recompute now =
          { e with output := top, target := some top, expiry := now + BitVec.ofNat 32 settle })))

/-- CLAIM_EXC sets the caller's standing claim, recomputes the output level and answers claim, output and settled level
as they stand once the command is taken, before the decision that a changed claim causes (log 25); a claim repeated
changes nothing, and a code above 3 is refused (R30, R127, R129). -/
def Obligations.ClaimExcSetsTheStandingClaim : Prop :=
  ∀ (h : HostId) (b : Byte) (s : State), s.Offered h (.claimExc h [b]) →
    (4 ≤ b.toNat → exec (.claimExc h [b]) s = .next (s.respond h .badArgument [])) ∧
    (∀ l : Level, b.toNat = l.rank →
      let exc := if s.exc.standing.get h = l then s.exc
        else Excitation.recompute { s.exc with standing := s.exc.standing.put h l } s.timeBase
      let p := [BitVec.ofNat 8 l.rank, BitVec.ofNat 8 exc.output.rank, BitVec.ofNat 8 exc.settled.rank]
      (s.exc.standing.get h = l → exec (.claimExc h [b]) s = .next (s.respond h .ok p)) ∧
      (s.exc.standing.get h ≠ l →
        exec (.claimExc h [b]) s = .next (State.respond (State.arrival { s with exc := exc }) h .ok p)))

/-- A settling completes when its expiry is reached: the settled level becomes the target, and the target is absent. A
settling job whose minimum is met enters RUNNING and its step starts; with the converter free a free decision follows;
otherwise nothing more; what the settle expiry holds with no target is log 31. With no settling in progress, or before
the expiry, nothing happens (log 2); an expiry less than 2^31 µs back is read as reached (R76, log 3) (R9, R30, R109,
R132). -/
def Obligations.SettleExpirySettles : Prop :=
  ∀ s : State, s.inReset = false →
    (s.exc.target = none → exec .settleExpiry s = .next s) ∧
    (∀ l : Level, s.exc.target = some l →
      let t := { s with exc := { s.exc with settled := l, target := none } }
      (2 ^ 31 ≤ (s.timeBase - s.exc.expiry).toNat → exec .settleExpiry s = .next s) ∧
      ((s.timeBase - s.exc.expiry).toNat < 2 ^ 31 →
        (∀ (j : JobId) (x : SeqStep), s.engine.state = .settling → s.engine.settlingJob = some j →
          (s.seqOf j).minimum.rank ≤ l.rank → (s.seqOf j).steps[(s.job j).nextStep]? = some x →
          exec .settleExpiry s = .next { (t.setJob j { s.job j with state := .running }) with
            engine := s.engine.starting j (s.job j).nextStep x s.timeBase }) ∧
        ((s.engine.state = .idle ∨ s.engine.state = .fault) → exec .settleExpiry s = .next t.freeDecision) ∧
        ((s.engine.state = .converting ∨ s.engine.state = .calibrating) → exec .settleExpiry s = .next t)))

/-! ### Calibration -/

/-- REQUEST_CAL adds the caller to the requester set, an arrival, and changes nothing for a host already in it.
SET_CAL_INTERVAL sets or withdraws the caller's request, makes the smallest request that stands, or 4,096, the effective
interval, and answers it; a changed effective interval reaches the Dispatcher; 1 to 255 are refused (R116, R118). -/
def Obligations.CalibrationIsRequested : Prop :=
  (∀ (h : HostId) (s : State), s.Offered h (.requestCal h []) →
    (s.engine.requesters.get h = true → exec (.requestCal h []) s = .next (s.respond h .ok [])) ∧
    (s.engine.requesters.get h = false → exec (.requestCal h []) s = .next (State.respond (State.arrival
      { s with engine := { s.engine with requesters := s.engine.requesters.put h true } }) h .ok []))) ∧
  (∀ (h : HostId) (a b : Byte) (s : State), s.Offered h (.setCalInterval h [a, b]) →
    let n := a.toNat * 256 + b.toNat
    (1 ≤ n → n ≤ 255 → exec (.setCalInterval h [a, b]) s = .next (s.respond h .badArgument [])) ∧
    (∀ effective : Nat, (n = 0 ∨ 256 ≤ n) →
      let requests := s.engine.requests.put h (if n = 0 then none else some n)
      ((∀ k : HostId, requests.get k = none) → effective = 4096) →
      ((∃ k : HostId, requests.get k ≠ none) → (∃ k : HostId, requests.get k = some effective) ∧
        ∀ (k : HostId) (m : Nat), requests.get k = some m → effective ≤ m) →
      let t := { s with engine := { s.engine with requests := requests, effective := effective } }
      exec (.setCalInterval h [a, b]) s = .next (State.respond
        (if effective = s.engine.effective then t else t.intervalArrival) h .ok (bytesOf 2 effective))))

/-- A calibration completes 150 µs after its start. A pass clears counter, stale flag and failure count, answers the
served hosts with CAL_DONE (all three after the start-up calibration; for a host torn down during it R120 and R168
disagree, and a free value decides, log 15), and tells all hosts when it recovers the converter from FAULT, which is
read from a failure count of 3 (log 16). A failure sets the stale flag, counts to 3, tells all hosts, empties the
requester set and, at the third, enters FAULT. What cause and start count hold afterwards is log 31. A free decision
follows. Otherwise nothing happens (log 2); the 150 µs are counted from the start kept as a field (log 22), and a
moment less than 2^31 µs back is read as reached (R76, log 3) (R42, R119, R120, R121, R122, R124, R168). -/
def Obligations.CalibrationCompletionByResult : Prop :=
  ∀ (s : State) (result : CalResult), s.inReset = false →
    let e := s.engine
    let ends := e.state = .calibrating ∧ (s.timeBase - (e.calStart + 150)).toNat < 2 ^ 31
    (¬ ends → exec (.calibrationComplete result) s = .next s) ∧
    (ends →
      ∃ t : State, exec (.calibrationComplete result) s = .next t.freeDecision ∧
        (let n := min 3 (e.failures + 1)
         t = { s with
          events := t.events
          engine := match result with
            | .pass => { e with state := .idle, counter := 0, stale := false, failures := 0
                                served := ⟨false, false, false⟩, tornDown := ⟨false, false, false⟩ }
            | .fail => { e with state := if n = 3 then .fault else .idle, counter := 0, stale := true, failures := n
                                served := ⟨false, false, false⟩, requesters := ⟨false, false, false⟩
                                tornDown := ⟨false, false, false⟩ } } ∧
         ∀ h : HostId,
          let q := s.events.get h
          let answered := if e.served.get h = true ∨
              e.cause = .startup ∧ (e.tornDown.get h = false ∨ Config.startupReportsTornDown = true) then
            q.push ⟨s.timeBase, none, none, .calDone e.cause e.startCount e.failures⟩ else q
          let told := q.push ⟨s.timeBase, none, none, .calFailed e.cause e.startCount n⟩
          t.events.get h = match result with
            | .pass => if e.failures = 3 then answered.push ⟨s.timeBase, none, none, .converterRecovered⟩
                else answered
            | .fail => if e.failures ≠ 3 ∧ n = 3 then told.push ⟨s.timeBase, none, none, .converterFault⟩
                else told))

/-! ### Event Unit -/

/-- A record joins a queue of fewer than 16 and is dropped and counted, up to 255, otherwise; either asserts ATTN_N.
Every record is carried in the eight bytes of R188 and Table 12-10, in which bits of a detail byte that the table gives
to nothing are 0 (log 28). READ_EVENTS takes up to the number asked of the oldest records with the loss counter, which
it clears, and ATTN_N stays asserted while records are left; with neither to report it answers EMPTY, and a number out
of 1 to 7 is refused (R160, R163, R164, R166, R188). -/
def Obligations.EventRecordsAreQueuedAndRead : Prop :=
  (∀ (q : EventQueue) (e : Event),
    (q.queue.length < 16 → q.push e = ⟨q.queue ++ [e], q.loss, true⟩) ∧
    (16 ≤ q.queue.length → q.push e = ⟨q.queue, min 255 (q.loss + 1), true⟩)) ∧
  (∀ e : Event, e.image.length = 8 ∧
    (∀ (code : Byte) (detail : List Byte), e.tableRow = some (code, detail) →
      e.image = [code, BitVec.ofNat 8 (e.stamp.toNat / 256), BitVec.ofNat 8 e.stamp.toNat] ++ detail) ∧
    (∀ (w : WindowId) (step : Nat) (channel : Channel) (code : BitVec 12) (zone : Zone) (last : LastZone)
        (run : BitVec 16) (j : JobId) (f : FrameId),
      e.body = .limit w step channel code zone last run → step < 16 → e.job = some j → e.frame = some f →
      numberAt e.image 0 8 = 2 ^ 63 + 2 ^ 47 * (e.stamp.toNat % 65536) + 2 ^ 42 * j.val + 2 ^ 36 * f.val +
        2 ^ 34 * w.val + 2 ^ 30 * step + 2 ^ 26 * channel.val + 2 ^ 14 * code.toNat + 2 ^ 12 * zone.code +
        2 ^ 10 * last.code + 4 * (run.toNat % 256))) ∧
  (∀ (h : HostId) (b : Byte) (s : State), s.Offered h (.readEvents h [b]) →
    let q := s.events.get h
    let n := b.toNat
    ((n = 0 ∨ 7 < n) → exec (.readEvents h [b]) s = .next (s.respond h .badArgument [])) ∧
    (1 ≤ n → n ≤ 7 →
      (q.queue = [] → q.loss = 0 → exec (.readEvents h [b]) s = .next (s.respond h .empty [])) ∧
      (q.queue ≠ [] ∨ q.loss ≠ 0 → q.queue.length ≤ 16 → ∃ p : List Byte,
        exec (.readEvents h [b]) s = .next (State.respond { s with
          events := s.events.put h ⟨q.queue.drop n, 0, decide (n < q.queue.length)⟩ } h .ok p) ∧
        p.length = 2 + 8 * min n q.queue.length ∧
        numberAt p 0 1 = 8 * (q.queue.length - n) + min n q.queue.length ∧ numberAt p 1 1 = q.loss % 256 ∧
        (∀ (k : Nat) (e : Event), k < n → q.queue[k]? = some e →
          (p.drop (2 + 8 * k)).take 8 = e.image))))

/-! ### Teardown -/

/-- HOST_RESET: every job of the caller but the one whose step is in progress becomes FREE, and that one enters
STOPPING with reason TEARDOWN; a settling one gives the converter back, and frames of SETTLING and PREEMPTED jobs
return to the pool, in an order that is open (log 12), before those of the delivery queue; the caller's entries leave
the dispatch queue; its standing claim, holds, windows, events, interval request and calibration requests go, and the
effective interval is recomputed; its sequences become FREE, with fillers in their other fields (log 21), or orphans
while a job still names them, and orphans that no job names any more become FREE too. The jobs in SETTLING and
PREEMPTED leave their groups, and no other job does; the caller's groups become FREE (their other fields are fillers,
log 5); every other group keeps state, host, lease and expiry, but that a hold of another host that waited for the
caller's leaving jobs alone is granted, with HOLD_GRANTED as the one event for that host (their order is log 12).
Presentations fixed for the jobs that become FREE are skipped. The output level falls to the highest claim left, and
the drops of the several removals come to one drop of R133: with no drop a settling goes on with its expiry, and
otherwise it is abandoned or begins afresh toward the level left; what the expiry holds without a settling is log 31. No other host's job, entry, sequence but for its
reference count, delivery queue, window, standing claim or place in the calibration sets changes; the Time Base, the
lines and the ports stay. Then a changed interval, or what was released, reaches the Dispatcher, once (log 8); with a
step or a calibration in progress no decision is made (R23, R39, R51, R72, R80, R91, R105, R125, R133, R136, R149, R159,
R168, R183, R184). -/
def Obligations.HostResetTearsDownTheCaller : Prop :=
  ∀ (h : HostId) (s : State), s.Offered h (.hostReset h []) → s.Scheduled →
    ∃ t : State,
      (let released := s.pool.length < t.pool.length ∨ s.exc ≠ t.exc ∨ s.engine.state ≠ t.engine.state ∨
        ∃ g : GroupId, (s.groups.at g).state ≠ (t.groups.at g).state
       let i := Instr.hostReset h []
       (t.engine.effective ≠ s.engine.effective → exec i s = .next (t.intervalArrival.respond h .ok [])) ∧
       (t.engine.effective = s.engine.effective → released → exec i s = .next (t.arrival.respond h .ok [])) ∧
       (t.engine.effective = s.engine.effective → ¬ released → exec i s = .next (t.respond h .ok [])) ∧
       (s.engine.state = .converting ∨ s.engine.state = .calibrating → exec i s = .next (t.respond h .ok []))) ∧
      t.pending = s.pending ∧ t.ports = s.ports ∧ t.inReset = false ∧ t.timeBase = s.timeBase ∧
      t.levels = s.levels ∧ t.alloc = s.alloc ∧ t.allowance = s.allowance ∧ t.decisionDue = s.decisionDue ∧
      (∀ j : JobId, (s.job j).owner ≠ h → t.job j = s.job j) ∧
      (∀ j : JobId, (s.job j).owner = h →
        ((s.job j).state = .running ∨ (s.job j).state = .stopping → t.job j = { s.job j with
          state := .stopping, stopReason := some .teardown, periodTimer := none, deadlineTimer := none }) ∧
        ((s.job j).state ≠ .running → (s.job j).state ≠ .stopping → (t.job j).state = .free)) ∧
      t.queue = (s.queue.filter fun j => decide ((s.job j).owner ≠ h)) ∧
      (let holds := fun j : JobId =>
        (s.job j).owner = h ∧ ((s.job j).state = .settling ∨ (s.job j).state = .preempted)
       (∃ order : List JobId, order.Nodup ∧ (∀ j : JobId, j ∈ order ↔ holds j) ∧
        (let back := (order.filterMap fun j => (s.job j).fillFrame) ++ s.delivery.get h
         t.pool = s.pool ++ back ∧ t.inUse = s.inUse.put h (s.inUse.get h - back.length) ∧
         (∀ f : FrameId, t.frames.at f = if f ∈ back then Frame.free else s.frames.at f))) ∧
       (∀ j : JobId, t.exc.transient.at j = if holds j then none else s.exc.transient.at j) ∧
       (s.HoldingsSound →
        let granted := fun g : GroupId => (s.groups.at g).state = .pending ∧ (s.groups.at g).host ≠ h ∧
          (∃ j : JobId, holds j ∧ (s.groups.at g).occupants.at j = true) ∧
          ∀ j : JobId, (s.groups.at g).occupants.at j = true → holds j ∨ (s.job j).owner = (s.groups.at g).host
        let expiry := fun g : GroupId => s.timeBase + BitVec.ofNat 32 (1000 * (s.groups.at g).lease)
        (∀ g : GroupId,
          let r := s.groups.at g
          let left := (t.groups.at g).occupants
          (∀ j : JobId, left.at j = if holds j then false else r.occupants.at j) ∧
          (r.state ≠ .free → r.host = h → t.groups.at g = ⟨.free, .h0, 0, 0, left⟩) ∧
          (r.state = .free ∨ r.host ≠ h →
            (granted g → t.groups.at g = { r with state := .held, expiry := expiry g, occupants := left }) ∧
            (¬ granted g → t.groups.at g = { r with occupants := left }))) ∧
        (∀ k : HostId, k ≠ h → ∃ order : List GroupId, order.Nodup ∧
          (∀ g : GroupId, g ∈ order ↔ granted g ∧ (s.groups.at g).host = k) ∧
          t.events.get k = order.foldl (fun q g =>
            q.push ⟨s.timeBase, none, none, .holdGranted g (s.groups.at g).lease (expiry g)⟩) (s.events.get k)))) ∧
      t.waiting = (s.waiting.filter fun p => decide ((s.job p.job).owner ≠ h ∨ (s.job p.job).state = .free ∨
        (s.job p.job).state = .running ∨ (s.job p.job).state = .stopping)) ∧
      t.delivery = s.delivery.put h [] ∧ t.exc.standing = s.exc.standing.put h .off ∧ t.exc.output = t.exc.claimed ∧
      (s.exc.Sound →
        let left := Excitation.recompute
          { s.exc with standing := t.exc.standing, transient := t.exc.transient } s.timeBase
        t.exc.settled = left.settled ∧ t.exc.target = left.target ∧
        (left.target ≠ none → t.exc.expiry = left.expiry)) ∧
      (∀ k : HostId, k ≠ h → t.windows.get k = s.windows.get k) ∧
      (∀ w : WindowId, (t.window h w).enabled = false ∧ (t.window h w).lastZone = .unknown ∧
        (t.window h w).action = .notify) ∧
      t.events.get h = ⟨[], 0, false⟩ ∧
      ((∀ j : JobId, (s.job j).owner = h → s.NoHoldWaitsFor j) →
        ∀ k : HostId, k ≠ h → t.events.get k = s.events.get k) ∧
      (∀ g : GroupId, (s.groups.at g).state ≠ .free → (s.groups.at g).host = h →
        (t.groups.at g).state = .free) ∧
      (let freed := ∃ j : JobId, s.engine.settlingJob = some j ∧ (s.job j).owner = h
       let requests := s.engine.requests.put h none
       let e := if s.engine.state = .settling ∧ freed then s.engine.released else s.engine
       t.engine = { e with
        requests := requests, requesters := s.engine.requesters.put h false
        served := s.engine.served.put h false, effective := t.engine.effective
        tornDown := if s.engine.state = .calibrating ∧ s.engine.cause = .startup then s.engine.tornDown.put h true
          else s.engine.tornDown } ∧
       ((∀ k : HostId, requests.get k = none) → t.engine.effective = 4096) ∧
       ((∃ k : HostId, requests.get k ≠ none) → (∃ k : HostId, requests.get k = some t.engine.effective) ∧
         ∀ (k : HostId) (m : Nat), requests.get k = some m → t.engine.effective ≤ m)) ∧
      (∀ k : SeqId, (s.seqs.at k).defined = false → t.seqs.at k = s.seqs.at k) ∧ t.PoolSound ∧
      (∀ k : SeqId, (s.seqs.at k).defined = true → (s.seqs.at k).owner = some h ∨ (s.seqs.at k).owner = none →
        (t.namers k = 0 → t.seqs.at k = Seq.free) ∧
        (0 < t.namers k → t.seqs.at k = { s.seqs.at k with owner := none, refCount := t.namers k })) ∧
      (∀ (k : SeqId) (o : HostId), (s.seqs.at k).owner = some o → o ≠ h →
        t.seqs.at k = { s.seqs.at k with refCount := t.namers k })

/-! ### What every step keeps -/

/-- Every step keeps the event queues in their bounds with ATTN_N in step with them, the excitation levels in step
with the claims, and a port in SHIFTING as the fall of CS_N left it, which is the grain of the model (log 18), with
commands of its own host alone in hand. Outside reset a port's slot is READY exactly while it holds a response, one that
is WAITING has exactly one of a command in hand and a prepared response, and a port that shifts out its slot is READY
(R129 to R133, R160, R163, R166, R170, R172, R173, R175, R176). -/
def Obligations.StepsKeepEventsAndExcitation : Prop :=
  ∀ s t : State, s.EventsSound → s.exc.Sound → s.PortsSound → step s = .next t →
    t.EventsSound ∧ t.exc.Sound ∧ t.PortsSound

/-- Every step keeps the job table, the Sequence Store, the dispatch queue and the converter in agreement, and the
engine's counts in their bounds (R1, R24, R30, R93, R98, R103, R108, R114, R116, R121). -/
def Obligations.StepsKeepTheScheduleSound : Prop :=
  ∀ s t : State, s.Scheduled → s.engine.Sound → step s = .next t → t.Scheduled ∧ t.engine.Sound

/-- Every step keeps each frame in one place with its samples in order, the in-use counts within the allowances, what
every job holds in agreement with its state, the holds free of foreign occupants, and the windows' jobs alive (R53, R55,
R57, R64, R126, R138, R139, R141, R145, R151, R157). -/
def Obligations.StepsKeepTheResourcesSound : Prop :=
  ∀ s t : State, s.Scheduled → s.Resourced → s.SamplesSound → s.HoldsSound → s.WindowsSound → step s = .next t →
    t.Resourced ∧ t.SamplesSound ∧ t.HoldsSound ∧ t.WindowsSound

/-- All of these hold of the part as reset leaves it, in reset and right after a release. -/
def Obligations.ResetIsSound : Prop :=
  ∀ s : State, (s = State.reset ∨ ∃ (alloc : BitVec 2) (levels : LineLevels) (csLow : PerHost Bool),
      exec (.resetNRelease alloc levels csLow) State.reset = .next s) →
    s.EventsSound ∧ s.exc.Sound ∧ s.PortsSound ∧ s.Scheduled ∧ s.engine.Sound ∧ s.Resourced ∧ s.SamplesSound ∧
    s.HoldsSound ∧ s.WindowsSound
end

