-- ==== Sys2Proof/Laws/State.lean ====
section
/-! SUPPORT. What each update of the state leaves in each field, so that no later proof unfolds a record update. -/

namespace Sys2Proof

/-! ### The two containers -/

@[simp] theorem PerHost.get_put_same {α : Type} (p : PerHost α) (h : HostId) (x : α) : (p.put h x).get h = x := by
  cases h <;> rfl

theorem PerHost.get_put_of_ne {α : Type} (p : PerHost α) {h k : HostId} (x : α) (hne : k ≠ h) :
    (p.put h x).get k = p.get k := by
  cases h <;> cases k <;> first | rfl | exact absurd rfl hne

theorem PerHost.get_put {α : Type} (p : PerHost α) (h k : HostId) (x : α) :
    (p.put h x).get k = if k = h then x else p.get k := by
  cases h <;> cases k <;> rfl

@[simp] theorem PerHost.put_put {α : Type} (p : PerHost α) (h : HostId) (x y : α) :
    (p.put h x).put h y = p.put h y := by
  cases h <;> rfl

@[simp] theorem PerHost.put_get {α : Type} (p : PerHost α) (h : HostId) : p.put h (p.get h) = p := by
  cases h <;> rfl

theorem PerHost.put_comm {α : Type} (p : PerHost α) {h k : HostId} (x y : α) (hne : h ≠ k) :
    (p.put h x).put k y = (p.put k y).put h x := by
  cases h <;> cases k <;> first | rfl | exact absurd rfl hne

@[simp] theorem PerHost.get_same {α : Type} (x : α) (h : HostId) : (PerHost.same x).get h = x := by
  cases h <;> rfl

theorem PerHost.ext_get {α : Type} {p q : PerHost α} (h : ∀ k, p.get k = q.get k) : p = q := by
  cases p; cases q
  have h0 := h .h0; have h1 := h .h1; have h2 := h .h2
  simp only [PerHost.get] at h0 h1 h2
  subst h0 h1 h2; rfl

@[simp] theorem Table.at_put_same {α : Type} {n : Nat} (t : Table α n) (i : Fin n) (x : α) : (t.put i x).at i = x := by
  simp [Table.at, Table.put]

theorem Table.at_put {α : Type} {n : Nat} (t : Table α n) (i k : Fin n) (x : α) :
    (t.put i x).at k = if k = i then x else t.at k := by
  simp only [Table.at, Table.put, Vector.getElem_set, Fin.ext_iff, eq_comm]

theorem Table.at_put_of_ne {α : Type} {n : Nat} (t : Table α n) {i k : Fin n} (x : α) (hne : k ≠ i) :
    (t.put i x).at k = t.at k := by
  rw [Table.at_put, if_neg hne]

theorem Table.ext_at {α : Type} {n : Nat} {t u : Table α n} (h : ∀ i, t.at i = u.at i) : t = u :=
  Vector.ext fun i hi => h ⟨i, hi⟩

@[simp] theorem Table.put_put {α : Type} {n : Nat} (t : Table α n) (i : Fin n) (x y : α) :
    (t.put i x).put i y = t.put i y := by
  apply Table.ext_at; intro k; simp only [Table.at_put]; split <;> rfl

@[simp] theorem Table.put_at {α : Type} {n : Nat} (t : Table α n) (i : Fin n) : t.put i (t.at i) = t := by
  apply Table.ext_at; intro k; rw [Table.at_put]; split <;> simp_all

theorem Table.put_comm {α : Type} {n : Nat} (t : Table α n) {i k : Fin n} (x y : α) (hne : i ≠ k) :
    (t.put i x).put k y = (t.put k y).put i x := by
  apply Table.ext_at; intro m; simp only [Table.at_put]; split <;> split <;> simp_all

@[simp] theorem Table.at_replicate {α : Type} {n : Nat} (x : α) (i : Fin n) :
    Table.at (Vector.replicate n x) i = x := by
  simp [Table.at]

end Sys2Proof

namespace Sys2Proof.Machine

/-! ### drawn -/

@[simp] theorem State.drawn_pending (s : State) : (s.drawn).pending = s.pending := rfl
@[simp] theorem State.drawn_draws (s : State) : (s.drawn).draws = s.draws + 1 := rfl
@[simp] theorem State.drawn_inReset (s : State) : (s.drawn).inReset = s.inReset := rfl
@[simp] theorem State.drawn_timeBase (s : State) : (s.drawn).timeBase = s.timeBase := rfl
@[simp] theorem State.drawn_alloc (s : State) : (s.drawn).alloc = s.alloc := rfl
@[simp] theorem State.drawn_ports (s : State) : (s.drawn).ports = s.ports := rfl
@[simp] theorem State.drawn_seqs (s : State) : (s.drawn).seqs = s.seqs := rfl
@[simp] theorem State.drawn_freeSteps (s : State) : (s.drawn).freeSteps = s.freeSteps := rfl
@[simp] theorem State.drawn_jobs (s : State) : (s.drawn).jobs = s.jobs := rfl
@[simp] theorem State.drawn_levels (s : State) : (s.drawn).levels = s.levels := rfl
@[simp] theorem State.drawn_waiting (s : State) : (s.drawn).waiting = s.waiting := rfl
@[simp] theorem State.drawn_queue (s : State) : (s.drawn).queue = s.queue := rfl
@[simp] theorem State.drawn_decisionDue (s : State) : (s.drawn).decisionDue = s.decisionDue := rfl
@[simp] theorem State.drawn_engine (s : State) : (s.drawn).engine = s.engine := rfl
@[simp] theorem State.drawn_exc (s : State) : (s.drawn).exc = s.exc := rfl
@[simp] theorem State.drawn_frames (s : State) : (s.drawn).frames = s.frames := rfl
@[simp] theorem State.drawn_pool (s : State) : (s.drawn).pool = s.pool := rfl
@[simp] theorem State.drawn_allowance (s : State) : (s.drawn).allowance = s.allowance := rfl
@[simp] theorem State.drawn_inUse (s : State) : (s.drawn).inUse = s.inUse := rfl
@[simp] theorem State.drawn_delivery (s : State) : (s.drawn).delivery = s.delivery := rfl
@[simp] theorem State.drawn_groups (s : State) : (s.drawn).groups = s.groups := rfl
@[simp] theorem State.drawn_windows (s : State) : (s.drawn).windows = s.windows := rfl
@[simp] theorem State.drawn_events (s : State) : (s.drawn).events = s.events := rfl

/-! ### setJob -/

@[simp] theorem State.setJob_pending (s : State) (j : JobId) (r : Job) : (s.setJob j r).pending = s.pending := rfl
@[simp] theorem State.setJob_draws (s : State) (j : JobId) (r : Job) : (s.setJob j r).draws = s.draws := rfl
@[simp] theorem State.setJob_inReset (s : State) (j : JobId) (r : Job) : (s.setJob j r).inReset = s.inReset := rfl
@[simp] theorem State.setJob_timeBase (s : State) (j : JobId) (r : Job) : (s.setJob j r).timeBase = s.timeBase := rfl
@[simp] theorem State.setJob_alloc (s : State) (j : JobId) (r : Job) : (s.setJob j r).alloc = s.alloc := rfl
@[simp] theorem State.setJob_ports (s : State) (j : JobId) (r : Job) : (s.setJob j r).ports = s.ports := rfl
@[simp] theorem State.setJob_seqs (s : State) (j : JobId) (r : Job) : (s.setJob j r).seqs = s.seqs := rfl
@[simp] theorem State.setJob_freeSteps (s : State) (j : JobId) (r : Job) : (s.setJob j r).freeSteps = s.freeSteps := rfl
@[simp] theorem State.setJob_jobs (s : State) (j : JobId) (r : Job) : (s.setJob j r).jobs = s.jobs.put j r := rfl
@[simp] theorem State.setJob_levels (s : State) (j : JobId) (r : Job) : (s.setJob j r).levels = s.levels := rfl
@[simp] theorem State.setJob_waiting (s : State) (j : JobId) (r : Job) : (s.setJob j r).waiting = s.waiting := rfl
@[simp] theorem State.setJob_queue (s : State) (j : JobId) (r : Job) : (s.setJob j r).queue = s.queue := rfl
@[simp] theorem State.setJob_decisionDue (s : State) (j : JobId) (r : Job) : (s.setJob j r).decisionDue = s.decisionDue := rfl
@[simp] theorem State.setJob_engine (s : State) (j : JobId) (r : Job) : (s.setJob j r).engine = s.engine := rfl
@[simp] theorem State.setJob_exc (s : State) (j : JobId) (r : Job) : (s.setJob j r).exc = s.exc := rfl
@[simp] theorem State.setJob_frames (s : State) (j : JobId) (r : Job) : (s.setJob j r).frames = s.frames := rfl
@[simp] theorem State.setJob_pool (s : State) (j : JobId) (r : Job) : (s.setJob j r).pool = s.pool := rfl
@[simp] theorem State.setJob_allowance (s : State) (j : JobId) (r : Job) : (s.setJob j r).allowance = s.allowance := rfl
@[simp] theorem State.setJob_inUse (s : State) (j : JobId) (r : Job) : (s.setJob j r).inUse = s.inUse := rfl
@[simp] theorem State.setJob_delivery (s : State) (j : JobId) (r : Job) : (s.setJob j r).delivery = s.delivery := rfl
@[simp] theorem State.setJob_groups (s : State) (j : JobId) (r : Job) : (s.setJob j r).groups = s.groups := rfl
@[simp] theorem State.setJob_windows (s : State) (j : JobId) (r : Job) : (s.setJob j r).windows = s.windows := rfl
@[simp] theorem State.setJob_events (s : State) (j : JobId) (r : Job) : (s.setJob j r).events = s.events := rfl

/-! ### setSeq -/

@[simp] theorem State.setSeq_pending (s : State) (k : SeqId) (r : Seq) : (s.setSeq k r).pending = s.pending := rfl
@[simp] theorem State.setSeq_draws (s : State) (k : SeqId) (r : Seq) : (s.setSeq k r).draws = s.draws := rfl
@[simp] theorem State.setSeq_inReset (s : State) (k : SeqId) (r : Seq) : (s.setSeq k r).inReset = s.inReset := rfl
@[simp] theorem State.setSeq_timeBase (s : State) (k : SeqId) (r : Seq) : (s.setSeq k r).timeBase = s.timeBase := rfl
@[simp] theorem State.setSeq_alloc (s : State) (k : SeqId) (r : Seq) : (s.setSeq k r).alloc = s.alloc := rfl
@[simp] theorem State.setSeq_ports (s : State) (k : SeqId) (r : Seq) : (s.setSeq k r).ports = s.ports := rfl
@[simp] theorem State.setSeq_seqs (s : State) (k : SeqId) (r : Seq) : (s.setSeq k r).seqs = s.seqs.put k r := rfl
@[simp] theorem State.setSeq_freeSteps (s : State) (k : SeqId) (r : Seq) : (s.setSeq k r).freeSteps = s.freeSteps := rfl
@[simp] theorem State.setSeq_jobs (s : State) (k : SeqId) (r : Seq) : (s.setSeq k r).jobs = s.jobs := rfl
@[simp] theorem State.setSeq_levels (s : State) (k : SeqId) (r : Seq) : (s.setSeq k r).levels = s.levels := rfl
@[simp] theorem State.setSeq_waiting (s : State) (k : SeqId) (r : Seq) : (s.setSeq k r).waiting = s.waiting := rfl
@[simp] theorem State.setSeq_queue (s : State) (k : SeqId) (r : Seq) : (s.setSeq k r).queue = s.queue := rfl
@[simp] theorem State.setSeq_decisionDue (s : State) (k : SeqId) (r : Seq) : (s.setSeq k r).decisionDue = s.decisionDue := rfl
@[simp] theorem State.setSeq_engine (s : State) (k : SeqId) (r : Seq) : (s.setSeq k r).engine = s.engine := rfl
@[simp] theorem State.setSeq_exc (s : State) (k : SeqId) (r : Seq) : (s.setSeq k r).exc = s.exc := rfl
@[simp] theorem State.setSeq_frames (s : State) (k : SeqId) (r : Seq) : (s.setSeq k r).frames = s.frames := rfl
@[simp] theorem State.setSeq_pool (s : State) (k : SeqId) (r : Seq) : (s.setSeq k r).pool = s.pool := rfl
@[simp] theorem State.setSeq_allowance (s : State) (k : SeqId) (r : Seq) : (s.setSeq k r).allowance = s.allowance := rfl
@[simp] theorem State.setSeq_inUse (s : State) (k : SeqId) (r : Seq) : (s.setSeq k r).inUse = s.inUse := rfl
@[simp] theorem State.setSeq_delivery (s : State) (k : SeqId) (r : Seq) : (s.setSeq k r).delivery = s.delivery := rfl
@[simp] theorem State.setSeq_groups (s : State) (k : SeqId) (r : Seq) : (s.setSeq k r).groups = s.groups := rfl
@[simp] theorem State.setSeq_windows (s : State) (k : SeqId) (r : Seq) : (s.setSeq k r).windows = s.windows := rfl
@[simp] theorem State.setSeq_events (s : State) (k : SeqId) (r : Seq) : (s.setSeq k r).events = s.events := rfl

/-! ### setFrame -/

@[simp] theorem State.setFrame_pending (s : State) (f : FrameId) (r : Frame) :
    (s.setFrame f r).pending = s.pending := rfl
@[simp] theorem State.setFrame_draws (s : State) (f : FrameId) (r : Frame) : (s.setFrame f r).draws = s.draws := rfl
@[simp] theorem State.setFrame_inReset (s : State) (f : FrameId) (r : Frame) :
    (s.setFrame f r).inReset = s.inReset := rfl
@[simp] theorem State.setFrame_timeBase (s : State) (f : FrameId) (r : Frame) :
    (s.setFrame f r).timeBase = s.timeBase := rfl
@[simp] theorem State.setFrame_alloc (s : State) (f : FrameId) (r : Frame) : (s.setFrame f r).alloc = s.alloc := rfl
@[simp] theorem State.setFrame_ports (s : State) (f : FrameId) (r : Frame) : (s.setFrame f r).ports = s.ports := rfl
@[simp] theorem State.setFrame_seqs (s : State) (f : FrameId) (r : Frame) : (s.setFrame f r).seqs = s.seqs := rfl
@[simp] theorem State.setFrame_freeSteps (s : State) (f : FrameId) (r : Frame) :
    (s.setFrame f r).freeSteps = s.freeSteps := rfl
@[simp] theorem State.setFrame_jobs (s : State) (f : FrameId) (r : Frame) : (s.setFrame f r).jobs = s.jobs := rfl
@[simp] theorem State.setFrame_levels (s : State) (f : FrameId) (r : Frame) : (s.setFrame f r).levels = s.levels := rfl
@[simp] theorem State.setFrame_waiting (s : State) (f : FrameId) (r : Frame) :
    (s.setFrame f r).waiting = s.waiting := rfl
@[simp] theorem State.setFrame_queue (s : State) (f : FrameId) (r : Frame) : (s.setFrame f r).queue = s.queue := rfl
@[simp] theorem State.setFrame_decisionDue (s : State) (f : FrameId) (r : Frame) :
    (s.setFrame f r).decisionDue = s.decisionDue := rfl
@[simp] theorem State.setFrame_engine (s : State) (f : FrameId) (r : Frame) : (s.setFrame f r).engine = s.engine := rfl
@[simp] theorem State.setFrame_exc (s : State) (f : FrameId) (r : Frame) : (s.setFrame f r).exc = s.exc := rfl
@[simp] theorem State.setFrame_frames (s : State) (f : FrameId) (r : Frame) :
    (s.setFrame f r).frames = s.frames.put f r := rfl
@[simp] theorem State.setFrame_pool (s : State) (f : FrameId) (r : Frame) : (s.setFrame f r).pool = s.pool := rfl
@[simp] theorem State.setFrame_allowance (s : State) (f : FrameId) (r : Frame) :
    (s.setFrame f r).allowance = s.allowance := rfl
@[simp] theorem State.setFrame_inUse (s : State) (f : FrameId) (r : Frame) : (s.setFrame f r).inUse = s.inUse := rfl
@[simp] theorem State.setFrame_delivery (s : State) (f : FrameId) (r : Frame) :
    (s.setFrame f r).delivery = s.delivery := rfl
@[simp] theorem State.setFrame_groups (s : State) (f : FrameId) (r : Frame) : (s.setFrame f r).groups = s.groups := rfl
@[simp] theorem State.setFrame_windows (s : State) (f : FrameId) (r : Frame) :
    (s.setFrame f r).windows = s.windows := rfl
@[simp] theorem State.setFrame_events (s : State) (f : FrameId) (r : Frame) : (s.setFrame f r).events = s.events := rfl

/-! ### setGroup -/

@[simp] theorem State.setGroup_pending (s : State) (g : GroupId) (r : Group) :
    (s.setGroup g r).pending = s.pending := rfl
@[simp] theorem State.setGroup_draws (s : State) (g : GroupId) (r : Group) : (s.setGroup g r).draws = s.draws := rfl
@[simp] theorem State.setGroup_inReset (s : State) (g : GroupId) (r : Group) :
    (s.setGroup g r).inReset = s.inReset := rfl
@[simp] theorem State.setGroup_timeBase (s : State) (g : GroupId) (r : Group) :
    (s.setGroup g r).timeBase = s.timeBase := rfl
@[simp] theorem State.setGroup_alloc (s : State) (g : GroupId) (r : Group) : (s.setGroup g r).alloc = s.alloc := rfl
@[simp] theorem State.setGroup_ports (s : State) (g : GroupId) (r : Group) : (s.setGroup g r).ports = s.ports := rfl
@[simp] theorem State.setGroup_seqs (s : State) (g : GroupId) (r : Group) : (s.setGroup g r).seqs = s.seqs := rfl
@[simp] theorem State.setGroup_freeSteps (s : State) (g : GroupId) (r : Group) :
    (s.setGroup g r).freeSteps = s.freeSteps := rfl
@[simp] theorem State.setGroup_jobs (s : State) (g : GroupId) (r : Group) : (s.setGroup g r).jobs = s.jobs := rfl
@[simp] theorem State.setGroup_levels (s : State) (g : GroupId) (r : Group) : (s.setGroup g r).levels = s.levels := rfl
@[simp] theorem State.setGroup_waiting (s : State) (g : GroupId) (r : Group) :
    (s.setGroup g r).waiting = s.waiting := rfl
@[simp] theorem State.setGroup_queue (s : State) (g : GroupId) (r : Group) : (s.setGroup g r).queue = s.queue := rfl
@[simp] theorem State.setGroup_decisionDue (s : State) (g : GroupId) (r : Group) :
    (s.setGroup g r).decisionDue = s.decisionDue := rfl
@[simp] theorem State.setGroup_engine (s : State) (g : GroupId) (r : Group) : (s.setGroup g r).engine = s.engine := rfl
@[simp] theorem State.setGroup_exc (s : State) (g : GroupId) (r : Group) : (s.setGroup g r).exc = s.exc := rfl
@[simp] theorem State.setGroup_frames (s : State) (g : GroupId) (r : Group) : (s.setGroup g r).frames = s.frames := rfl
@[simp] theorem State.setGroup_pool (s : State) (g : GroupId) (r : Group) : (s.setGroup g r).pool = s.pool := rfl
@[simp] theorem State.setGroup_allowance (s : State) (g : GroupId) (r : Group) :
    (s.setGroup g r).allowance = s.allowance := rfl
@[simp] theorem State.setGroup_inUse (s : State) (g : GroupId) (r : Group) : (s.setGroup g r).inUse = s.inUse := rfl
@[simp] theorem State.setGroup_delivery (s : State) (g : GroupId) (r : Group) :
    (s.setGroup g r).delivery = s.delivery := rfl
@[simp] theorem State.setGroup_groups (s : State) (g : GroupId) (r : Group) :
    (s.setGroup g r).groups = s.groups.put g r := rfl
@[simp] theorem State.setGroup_windows (s : State) (g : GroupId) (r : Group) :
    (s.setGroup g r).windows = s.windows := rfl
@[simp] theorem State.setGroup_events (s : State) (g : GroupId) (r : Group) : (s.setGroup g r).events = s.events := rfl

/-! ### setWindow -/

@[simp] theorem State.setWindow_pending (s : State) (h : HostId) (w : WindowId) (r : Window) :
    (s.setWindow h w r).pending = s.pending := rfl
@[simp] theorem State.setWindow_draws (s : State) (h : HostId) (w : WindowId) (r : Window) :
    (s.setWindow h w r).draws = s.draws := rfl
@[simp] theorem State.setWindow_inReset (s : State) (h : HostId) (w : WindowId) (r : Window) :
    (s.setWindow h w r).inReset = s.inReset := rfl
@[simp] theorem State.setWindow_timeBase (s : State) (h : HostId) (w : WindowId) (r : Window) :
    (s.setWindow h w r).timeBase = s.timeBase := rfl
@[simp] theorem State.setWindow_alloc (s : State) (h : HostId) (w : WindowId) (r : Window) :
    (s.setWindow h w r).alloc = s.alloc := rfl
@[simp] theorem State.setWindow_ports (s : State) (h : HostId) (w : WindowId) (r : Window) :
    (s.setWindow h w r).ports = s.ports := rfl
@[simp] theorem State.setWindow_seqs (s : State) (h : HostId) (w : WindowId) (r : Window) :
    (s.setWindow h w r).seqs = s.seqs := rfl
@[simp] theorem State.setWindow_freeSteps (s : State) (h : HostId) (w : WindowId) (r : Window) :
    (s.setWindow h w r).freeSteps = s.freeSteps := rfl
@[simp] theorem State.setWindow_jobs (s : State) (h : HostId) (w : WindowId) (r : Window) :
    (s.setWindow h w r).jobs = s.jobs := rfl
@[simp] theorem State.setWindow_levels (s : State) (h : HostId) (w : WindowId) (r : Window) :
    (s.setWindow h w r).levels = s.levels := rfl
@[simp] theorem State.setWindow_waiting (s : State) (h : HostId) (w : WindowId) (r : Window) :
    (s.setWindow h w r).waiting = s.waiting := rfl
@[simp] theorem State.setWindow_queue (s : State) (h : HostId) (w : WindowId) (r : Window) :
    (s.setWindow h w r).queue = s.queue := rfl
@[simp] theorem State.setWindow_decisionDue (s : State) (h : HostId) (w : WindowId) (r : Window) :
    (s.setWindow h w r).decisionDue = s.decisionDue := rfl
@[simp] theorem State.setWindow_engine (s : State) (h : HostId) (w : WindowId) (r : Window) :
    (s.setWindow h w r).engine = s.engine := rfl
@[simp] theorem State.setWindow_exc (s : State) (h : HostId) (w : WindowId) (r : Window) :
    (s.setWindow h w r).exc = s.exc := rfl
@[simp] theorem State.setWindow_frames (s : State) (h : HostId) (w : WindowId) (r : Window) :
    (s.setWindow h w r).frames = s.frames := rfl
@[simp] theorem State.setWindow_pool (s : State) (h : HostId) (w : WindowId) (r : Window) :
    (s.setWindow h w r).pool = s.pool := rfl
@[simp] theorem State.setWindow_allowance (s : State) (h : HostId) (w : WindowId) (r : Window) :
    (s.setWindow h w r).allowance = s.allowance := rfl
@[simp] theorem State.setWindow_inUse (s : State) (h : HostId) (w : WindowId) (r : Window) :
    (s.setWindow h w r).inUse = s.inUse := rfl
@[simp] theorem State.setWindow_delivery (s : State) (h : HostId) (w : WindowId) (r : Window) :
    (s.setWindow h w r).delivery = s.delivery := rfl
@[simp] theorem State.setWindow_groups (s : State) (h : HostId) (w : WindowId) (r : Window) :
    (s.setWindow h w r).groups = s.groups := rfl
@[simp] theorem State.setWindow_windows (s : State) (h : HostId) (w : WindowId) (r : Window) :
    (s.setWindow h w r).windows = s.windows.put h ((s.windows.get h).put w r) := rfl
@[simp] theorem State.setWindow_events (s : State) (h : HostId) (w : WindowId) (r : Window) :
    (s.setWindow h w r).events = s.events := rfl

/-! ### setPort -/

@[simp] theorem State.setPort_pending (s : State) (h : HostId) (p : Port) : (s.setPort h p).pending = s.pending := rfl
@[simp] theorem State.setPort_draws (s : State) (h : HostId) (p : Port) : (s.setPort h p).draws = s.draws := rfl
@[simp] theorem State.setPort_inReset (s : State) (h : HostId) (p : Port) : (s.setPort h p).inReset = s.inReset := rfl
@[simp] theorem State.setPort_timeBase (s : State) (h : HostId) (p : Port) :
    (s.setPort h p).timeBase = s.timeBase := rfl
@[simp] theorem State.setPort_alloc (s : State) (h : HostId) (p : Port) : (s.setPort h p).alloc = s.alloc := rfl
@[simp] theorem State.setPort_ports (s : State) (h : HostId) (p : Port) : (s.setPort h p).ports = s.ports.put h p := rfl
@[simp] theorem State.setPort_seqs (s : State) (h : HostId) (p : Port) : (s.setPort h p).seqs = s.seqs := rfl
@[simp] theorem State.setPort_freeSteps (s : State) (h : HostId) (p : Port) :
    (s.setPort h p).freeSteps = s.freeSteps := rfl
@[simp] theorem State.setPort_jobs (s : State) (h : HostId) (p : Port) : (s.setPort h p).jobs = s.jobs := rfl
@[simp] theorem State.setPort_levels (s : State) (h : HostId) (p : Port) : (s.setPort h p).levels = s.levels := rfl
@[simp] theorem State.setPort_waiting (s : State) (h : HostId) (p : Port) : (s.setPort h p).waiting = s.waiting := rfl
@[simp] theorem State.setPort_queue (s : State) (h : HostId) (p : Port) : (s.setPort h p).queue = s.queue := rfl
@[simp] theorem State.setPort_decisionDue (s : State) (h : HostId) (p : Port) :
    (s.setPort h p).decisionDue = s.decisionDue := rfl
@[simp] theorem State.setPort_engine (s : State) (h : HostId) (p : Port) : (s.setPort h p).engine = s.engine := rfl
@[simp] theorem State.setPort_exc (s : State) (h : HostId) (p : Port) : (s.setPort h p).exc = s.exc := rfl
@[simp] theorem State.setPort_frames (s : State) (h : HostId) (p : Port) : (s.setPort h p).frames = s.frames := rfl
@[simp] theorem State.setPort_pool (s : State) (h : HostId) (p : Port) : (s.setPort h p).pool = s.pool := rfl
@[simp] theorem State.setPort_allowance (s : State) (h : HostId) (p : Port) :
    (s.setPort h p).allowance = s.allowance := rfl
@[simp] theorem State.setPort_inUse (s : State) (h : HostId) (p : Port) : (s.setPort h p).inUse = s.inUse := rfl
@[simp] theorem State.setPort_delivery (s : State) (h : HostId) (p : Port) :
    (s.setPort h p).delivery = s.delivery := rfl
@[simp] theorem State.setPort_groups (s : State) (h : HostId) (p : Port) : (s.setPort h p).groups = s.groups := rfl
@[simp] theorem State.setPort_windows (s : State) (h : HostId) (p : Port) : (s.setPort h p).windows = s.windows := rfl
@[simp] theorem State.setPort_events (s : State) (h : HostId) (p : Port) : (s.setPort h p).events = s.events := rfl

/-! ### emit -/

@[simp] theorem State.emit_pending (s : State) (h : HostId) (j : Option JobId) (f : Option FrameId) (b : EventBody) :
    (s.emit h j f b).pending = s.pending := rfl
@[simp] theorem State.emit_draws (s : State) (h : HostId) (j : Option JobId) (f : Option FrameId) (b : EventBody) :
    (s.emit h j f b).draws = s.draws := rfl
@[simp] theorem State.emit_inReset (s : State) (h : HostId) (j : Option JobId) (f : Option FrameId) (b : EventBody) :
    (s.emit h j f b).inReset = s.inReset := rfl
@[simp] theorem State.emit_timeBase (s : State) (h : HostId) (j : Option JobId) (f : Option FrameId) (b : EventBody) :
    (s.emit h j f b).timeBase = s.timeBase := rfl
@[simp] theorem State.emit_alloc (s : State) (h : HostId) (j : Option JobId) (f : Option FrameId) (b : EventBody) :
    (s.emit h j f b).alloc = s.alloc := rfl
@[simp] theorem State.emit_ports (s : State) (h : HostId) (j : Option JobId) (f : Option FrameId) (b : EventBody) :
    (s.emit h j f b).ports = s.ports := rfl
@[simp] theorem State.emit_seqs (s : State) (h : HostId) (j : Option JobId) (f : Option FrameId) (b : EventBody) :
    (s.emit h j f b).seqs = s.seqs := rfl
@[simp] theorem State.emit_freeSteps (s : State) (h : HostId) (j : Option JobId) (f : Option FrameId) (b : EventBody) :
    (s.emit h j f b).freeSteps = s.freeSteps := rfl
@[simp] theorem State.emit_jobs (s : State) (h : HostId) (j : Option JobId) (f : Option FrameId) (b : EventBody) :
    (s.emit h j f b).jobs = s.jobs := rfl
@[simp] theorem State.emit_levels (s : State) (h : HostId) (j : Option JobId) (f : Option FrameId) (b : EventBody) :
    (s.emit h j f b).levels = s.levels := rfl
@[simp] theorem State.emit_waiting (s : State) (h : HostId) (j : Option JobId) (f : Option FrameId) (b : EventBody) :
    (s.emit h j f b).waiting = s.waiting := rfl
@[simp] theorem State.emit_queue (s : State) (h : HostId) (j : Option JobId) (f : Option FrameId) (b : EventBody) :
    (s.emit h j f b).queue = s.queue := rfl
@[simp] theorem State.emit_decisionDue (s : State) (h : HostId) (j : Option JobId) (f : Option FrameId) (b : EventBody) :
    (s.emit h j f b).decisionDue = s.decisionDue := rfl
@[simp] theorem State.emit_engine (s : State) (h : HostId) (j : Option JobId) (f : Option FrameId) (b : EventBody) :
    (s.emit h j f b).engine = s.engine := rfl
@[simp] theorem State.emit_exc (s : State) (h : HostId) (j : Option JobId) (f : Option FrameId) (b : EventBody) :
    (s.emit h j f b).exc = s.exc := rfl
@[simp] theorem State.emit_frames (s : State) (h : HostId) (j : Option JobId) (f : Option FrameId) (b : EventBody) :
    (s.emit h j f b).frames = s.frames := rfl
@[simp] theorem State.emit_pool (s : State) (h : HostId) (j : Option JobId) (f : Option FrameId) (b : EventBody) :
    (s.emit h j f b).pool = s.pool := rfl
@[simp] theorem State.emit_allowance (s : State) (h : HostId) (j : Option JobId) (f : Option FrameId) (b : EventBody) :
    (s.emit h j f b).allowance = s.allowance := rfl
@[simp] theorem State.emit_inUse (s : State) (h : HostId) (j : Option JobId) (f : Option FrameId) (b : EventBody) :
    (s.emit h j f b).inUse = s.inUse := rfl
@[simp] theorem State.emit_delivery (s : State) (h : HostId) (j : Option JobId) (f : Option FrameId) (b : EventBody) :
    (s.emit h j f b).delivery = s.delivery := rfl
@[simp] theorem State.emit_groups (s : State) (h : HostId) (j : Option JobId) (f : Option FrameId) (b : EventBody) :
    (s.emit h j f b).groups = s.groups := rfl
@[simp] theorem State.emit_windows (s : State) (h : HostId) (j : Option JobId) (f : Option FrameId) (b : EventBody) :
    (s.emit h j f b).windows = s.windows := rfl
@[simp] theorem State.emit_events (s : State) (h : HostId) (j : Option JobId) (f : Option FrameId) (b : EventBody) :
    (s.emit h j f b).events = s.events.put h ((s.events.get h).push ⟨s.timeBase, j, f, b⟩) := rfl

/-! ### setStanding -/

@[simp] theorem State.setStanding_pending (s : State) (h : HostId) (l : Level) :
    (s.setStanding h l).pending = s.pending := rfl
@[simp] theorem State.setStanding_draws (s : State) (h : HostId) (l : Level) :
    (s.setStanding h l).draws = s.draws := rfl
@[simp] theorem State.setStanding_inReset (s : State) (h : HostId) (l : Level) :
    (s.setStanding h l).inReset = s.inReset := rfl
@[simp] theorem State.setStanding_timeBase (s : State) (h : HostId) (l : Level) :
    (s.setStanding h l).timeBase = s.timeBase := rfl
@[simp] theorem State.setStanding_alloc (s : State) (h : HostId) (l : Level) :
    (s.setStanding h l).alloc = s.alloc := rfl
@[simp] theorem State.setStanding_ports (s : State) (h : HostId) (l : Level) :
    (s.setStanding h l).ports = s.ports := rfl
@[simp] theorem State.setStanding_seqs (s : State) (h : HostId) (l : Level) : (s.setStanding h l).seqs = s.seqs := rfl
@[simp] theorem State.setStanding_freeSteps (s : State) (h : HostId) (l : Level) :
    (s.setStanding h l).freeSteps = s.freeSteps := rfl
@[simp] theorem State.setStanding_jobs (s : State) (h : HostId) (l : Level) : (s.setStanding h l).jobs = s.jobs := rfl
@[simp] theorem State.setStanding_levels (s : State) (h : HostId) (l : Level) :
    (s.setStanding h l).levels = s.levels := rfl
@[simp] theorem State.setStanding_waiting (s : State) (h : HostId) (l : Level) :
    (s.setStanding h l).waiting = s.waiting := rfl
@[simp] theorem State.setStanding_queue (s : State) (h : HostId) (l : Level) :
    (s.setStanding h l).queue = s.queue := rfl
@[simp] theorem State.setStanding_decisionDue (s : State) (h : HostId) (l : Level) :
    (s.setStanding h l).decisionDue = s.decisionDue := rfl
@[simp] theorem State.setStanding_engine (s : State) (h : HostId) (l : Level) :
    (s.setStanding h l).engine = s.engine := rfl
@[simp] theorem State.setStanding_exc (s : State) (h : HostId) (l : Level) :
    (s.setStanding h l).exc = Excitation.recompute { s.exc with standing := s.exc.standing.put h l } s.timeBase := rfl
@[simp] theorem State.setStanding_frames (s : State) (h : HostId) (l : Level) :
    (s.setStanding h l).frames = s.frames := rfl
@[simp] theorem State.setStanding_pool (s : State) (h : HostId) (l : Level) : (s.setStanding h l).pool = s.pool := rfl
@[simp] theorem State.setStanding_allowance (s : State) (h : HostId) (l : Level) :
    (s.setStanding h l).allowance = s.allowance := rfl
@[simp] theorem State.setStanding_inUse (s : State) (h : HostId) (l : Level) :
    (s.setStanding h l).inUse = s.inUse := rfl
@[simp] theorem State.setStanding_delivery (s : State) (h : HostId) (l : Level) :
    (s.setStanding h l).delivery = s.delivery := rfl
@[simp] theorem State.setStanding_groups (s : State) (h : HostId) (l : Level) :
    (s.setStanding h l).groups = s.groups := rfl
@[simp] theorem State.setStanding_windows (s : State) (h : HostId) (l : Level) :
    (s.setStanding h l).windows = s.windows := rfl
@[simp] theorem State.setStanding_events (s : State) (h : HostId) (l : Level) :
    (s.setStanding h l).events = s.events := rfl

/-! ### setTransient -/

@[simp] theorem State.setTransient_pending (s : State) (j : JobId) (c : Option Level) :
    (s.setTransient j c).pending = s.pending := rfl
@[simp] theorem State.setTransient_draws (s : State) (j : JobId) (c : Option Level) :
    (s.setTransient j c).draws = s.draws := rfl
@[simp] theorem State.setTransient_inReset (s : State) (j : JobId) (c : Option Level) :
    (s.setTransient j c).inReset = s.inReset := rfl
@[simp] theorem State.setTransient_timeBase (s : State) (j : JobId) (c : Option Level) :
    (s.setTransient j c).timeBase = s.timeBase := rfl
@[simp] theorem State.setTransient_alloc (s : State) (j : JobId) (c : Option Level) :
    (s.setTransient j c).alloc = s.alloc := rfl
@[simp] theorem State.setTransient_ports (s : State) (j : JobId) (c : Option Level) :
    (s.setTransient j c).ports = s.ports := rfl
@[simp] theorem State.setTransient_seqs (s : State) (j : JobId) (c : Option Level) :
    (s.setTransient j c).seqs = s.seqs := rfl
@[simp] theorem State.setTransient_freeSteps (s : State) (j : JobId) (c : Option Level) :
    (s.setTransient j c).freeSteps = s.freeSteps := rfl
@[simp] theorem State.setTransient_jobs (s : State) (j : JobId) (c : Option Level) :
    (s.setTransient j c).jobs = s.jobs := rfl
@[simp] theorem State.setTransient_levels (s : State) (j : JobId) (c : Option Level) :
    (s.setTransient j c).levels = s.levels := rfl
@[simp] theorem State.setTransient_waiting (s : State) (j : JobId) (c : Option Level) :
    (s.setTransient j c).waiting = s.waiting := rfl
@[simp] theorem State.setTransient_queue (s : State) (j : JobId) (c : Option Level) :
    (s.setTransient j c).queue = s.queue := rfl
@[simp] theorem State.setTransient_decisionDue (s : State) (j : JobId) (c : Option Level) :
    (s.setTransient j c).decisionDue = s.decisionDue := rfl
@[simp] theorem State.setTransient_engine (s : State) (j : JobId) (c : Option Level) :
    (s.setTransient j c).engine = s.engine := rfl
@[simp] theorem State.setTransient_exc (s : State) (j : JobId) (c : Option Level) :
    (s.setTransient j c).exc = Excitation.recompute { s.exc with transient := s.exc.transient.put j c } s.timeBase := rfl
@[simp] theorem State.setTransient_frames (s : State) (j : JobId) (c : Option Level) :
    (s.setTransient j c).frames = s.frames := rfl
@[simp] theorem State.setTransient_pool (s : State) (j : JobId) (c : Option Level) :
    (s.setTransient j c).pool = s.pool := rfl
@[simp] theorem State.setTransient_allowance (s : State) (j : JobId) (c : Option Level) :
    (s.setTransient j c).allowance = s.allowance := rfl
@[simp] theorem State.setTransient_inUse (s : State) (j : JobId) (c : Option Level) :
    (s.setTransient j c).inUse = s.inUse := rfl
@[simp] theorem State.setTransient_delivery (s : State) (j : JobId) (c : Option Level) :
    (s.setTransient j c).delivery = s.delivery := rfl
@[simp] theorem State.setTransient_groups (s : State) (j : JobId) (c : Option Level) :
    (s.setTransient j c).groups = s.groups := rfl
@[simp] theorem State.setTransient_windows (s : State) (j : JobId) (c : Option Level) :
    (s.setTransient j c).windows = s.windows := rfl
@[simp] theorem State.setTransient_events (s : State) (j : JobId) (c : Option Level) :
    (s.setTransient j c).events = s.events := rfl

/-! ### returnFrame -/

@[simp] theorem State.returnFrame_pending (s : State) (h : HostId) (f : FrameId) :
    (s.returnFrame h f).pending = s.pending := rfl
@[simp] theorem State.returnFrame_draws (s : State) (h : HostId) (f : FrameId) :
    (s.returnFrame h f).draws = s.draws := rfl
@[simp] theorem State.returnFrame_inReset (s : State) (h : HostId) (f : FrameId) :
    (s.returnFrame h f).inReset = s.inReset := rfl
@[simp] theorem State.returnFrame_timeBase (s : State) (h : HostId) (f : FrameId) :
    (s.returnFrame h f).timeBase = s.timeBase := rfl
@[simp] theorem State.returnFrame_alloc (s : State) (h : HostId) (f : FrameId) :
    (s.returnFrame h f).alloc = s.alloc := rfl
@[simp] theorem State.returnFrame_ports (s : State) (h : HostId) (f : FrameId) :
    (s.returnFrame h f).ports = s.ports := rfl
@[simp] theorem State.returnFrame_seqs (s : State) (h : HostId) (f : FrameId) : (s.returnFrame h f).seqs = s.seqs := rfl
@[simp] theorem State.returnFrame_freeSteps (s : State) (h : HostId) (f : FrameId) :
    (s.returnFrame h f).freeSteps = s.freeSteps := rfl
@[simp] theorem State.returnFrame_jobs (s : State) (h : HostId) (f : FrameId) : (s.returnFrame h f).jobs = s.jobs := rfl
@[simp] theorem State.returnFrame_levels (s : State) (h : HostId) (f : FrameId) :
    (s.returnFrame h f).levels = s.levels := rfl
@[simp] theorem State.returnFrame_waiting (s : State) (h : HostId) (f : FrameId) :
    (s.returnFrame h f).waiting = s.waiting := rfl
@[simp] theorem State.returnFrame_queue (s : State) (h : HostId) (f : FrameId) :
    (s.returnFrame h f).queue = s.queue := rfl
@[simp] theorem State.returnFrame_decisionDue (s : State) (h : HostId) (f : FrameId) :
    (s.returnFrame h f).decisionDue = s.decisionDue := rfl
@[simp] theorem State.returnFrame_engine (s : State) (h : HostId) (f : FrameId) :
    (s.returnFrame h f).engine = s.engine := rfl
@[simp] theorem State.returnFrame_exc (s : State) (h : HostId) (f : FrameId) : (s.returnFrame h f).exc = s.exc := rfl
@[simp] theorem State.returnFrame_frames (s : State) (h : HostId) (f : FrameId) :
    (s.returnFrame h f).frames = s.frames.put f Frame.free := rfl
@[simp] theorem State.returnFrame_pool (s : State) (h : HostId) (f : FrameId) :
    (s.returnFrame h f).pool = s.pool ++ [f] := rfl
@[simp] theorem State.returnFrame_allowance (s : State) (h : HostId) (f : FrameId) :
    (s.returnFrame h f).allowance = s.allowance := rfl
@[simp] theorem State.returnFrame_inUse (s : State) (h : HostId) (f : FrameId) :
    (s.returnFrame h f).inUse = s.inUse.put h (s.inUse.get h - 1) := rfl
@[simp] theorem State.returnFrame_delivery (s : State) (h : HostId) (f : FrameId) :
    (s.returnFrame h f).delivery = s.delivery := rfl
@[simp] theorem State.returnFrame_groups (s : State) (h : HostId) (f : FrameId) :
    (s.returnFrame h f).groups = s.groups := rfl
@[simp] theorem State.returnFrame_windows (s : State) (h : HostId) (f : FrameId) :
    (s.returnFrame h f).windows = s.windows := rfl
@[simp] theorem State.returnFrame_events (s : State) (h : HostId) (f : FrameId) :
    (s.returnFrame h f).events = s.events := rfl

/-! ### releaseConverter -/

@[simp] theorem State.releaseConverter_pending (s : State) : (s.releaseConverter).pending = s.pending := rfl
@[simp] theorem State.releaseConverter_draws (s : State) : (s.releaseConverter).draws = s.draws := rfl
@[simp] theorem State.releaseConverter_inReset (s : State) : (s.releaseConverter).inReset = s.inReset := rfl
@[simp] theorem State.releaseConverter_timeBase (s : State) : (s.releaseConverter).timeBase = s.timeBase := rfl
@[simp] theorem State.releaseConverter_alloc (s : State) : (s.releaseConverter).alloc = s.alloc := rfl
@[simp] theorem State.releaseConverter_ports (s : State) : (s.releaseConverter).ports = s.ports := rfl
@[simp] theorem State.releaseConverter_seqs (s : State) : (s.releaseConverter).seqs = s.seqs := rfl
@[simp] theorem State.releaseConverter_freeSteps (s : State) : (s.releaseConverter).freeSteps = s.freeSteps := rfl
@[simp] theorem State.releaseConverter_jobs (s : State) : (s.releaseConverter).jobs = s.jobs := rfl
@[simp] theorem State.releaseConverter_levels (s : State) : (s.releaseConverter).levels = s.levels := rfl
@[simp] theorem State.releaseConverter_waiting (s : State) : (s.releaseConverter).waiting = s.waiting := rfl
@[simp] theorem State.releaseConverter_queue (s : State) : (s.releaseConverter).queue = s.queue := rfl
@[simp] theorem State.releaseConverter_decisionDue (s : State) : (s.releaseConverter).decisionDue = s.decisionDue := rfl
@[simp] theorem State.releaseConverter_engine (s : State) :
    (s.releaseConverter).engine = { s.engine with state := .idle, step := none, settlingJob := none } := rfl
@[simp] theorem State.releaseConverter_exc (s : State) : (s.releaseConverter).exc = s.exc := rfl
@[simp] theorem State.releaseConverter_frames (s : State) : (s.releaseConverter).frames = s.frames := rfl
@[simp] theorem State.releaseConverter_pool (s : State) : (s.releaseConverter).pool = s.pool := rfl
@[simp] theorem State.releaseConverter_allowance (s : State) : (s.releaseConverter).allowance = s.allowance := rfl
@[simp] theorem State.releaseConverter_inUse (s : State) : (s.releaseConverter).inUse = s.inUse := rfl
@[simp] theorem State.releaseConverter_delivery (s : State) : (s.releaseConverter).delivery = s.delivery := rfl
@[simp] theorem State.releaseConverter_groups (s : State) : (s.releaseConverter).groups = s.groups := rfl
@[simp] theorem State.releaseConverter_windows (s : State) : (s.releaseConverter).windows = s.windows := rfl
@[simp] theorem State.releaseConverter_events (s : State) : (s.releaseConverter).events = s.events := rfl

/-! ### setRequest -/

@[simp] theorem State.setRequest_pending (s : State) (h : HostId) (n : Option Nat) :
    (s.setRequest h n).pending = s.pending := rfl
@[simp] theorem State.setRequest_draws (s : State) (h : HostId) (n : Option Nat) :
    (s.setRequest h n).draws = s.draws := rfl
@[simp] theorem State.setRequest_inReset (s : State) (h : HostId) (n : Option Nat) :
    (s.setRequest h n).inReset = s.inReset := rfl
@[simp] theorem State.setRequest_timeBase (s : State) (h : HostId) (n : Option Nat) :
    (s.setRequest h n).timeBase = s.timeBase := rfl
@[simp] theorem State.setRequest_alloc (s : State) (h : HostId) (n : Option Nat) :
    (s.setRequest h n).alloc = s.alloc := rfl
@[simp] theorem State.setRequest_ports (s : State) (h : HostId) (n : Option Nat) :
    (s.setRequest h n).ports = s.ports := rfl
@[simp] theorem State.setRequest_seqs (s : State) (h : HostId) (n : Option Nat) :
    (s.setRequest h n).seqs = s.seqs := rfl
@[simp] theorem State.setRequest_freeSteps (s : State) (h : HostId) (n : Option Nat) :
    (s.setRequest h n).freeSteps = s.freeSteps := rfl
@[simp] theorem State.setRequest_jobs (s : State) (h : HostId) (n : Option Nat) :
    (s.setRequest h n).jobs = s.jobs := rfl
@[simp] theorem State.setRequest_levels (s : State) (h : HostId) (n : Option Nat) :
    (s.setRequest h n).levels = s.levels := rfl
@[simp] theorem State.setRequest_waiting (s : State) (h : HostId) (n : Option Nat) :
    (s.setRequest h n).waiting = s.waiting := rfl
@[simp] theorem State.setRequest_queue (s : State) (h : HostId) (n : Option Nat) :
    (s.setRequest h n).queue = s.queue := rfl
@[simp] theorem State.setRequest_decisionDue (s : State) (h : HostId) (n : Option Nat) :
    (s.setRequest h n).decisionDue = s.decisionDue := rfl
@[simp] theorem State.setRequest_engine (s : State) (h : HostId) (n : Option Nat) :
    (s.setRequest h n).engine = { s.engine with
      requests := s.engine.requests.put h n, effective := effectiveInterval (s.engine.requests.put h n) } := rfl
@[simp] theorem State.setRequest_exc (s : State) (h : HostId) (n : Option Nat) : (s.setRequest h n).exc = s.exc := rfl
@[simp] theorem State.setRequest_frames (s : State) (h : HostId) (n : Option Nat) :
    (s.setRequest h n).frames = s.frames := rfl
@[simp] theorem State.setRequest_pool (s : State) (h : HostId) (n : Option Nat) :
    (s.setRequest h n).pool = s.pool := rfl
@[simp] theorem State.setRequest_allowance (s : State) (h : HostId) (n : Option Nat) :
    (s.setRequest h n).allowance = s.allowance := rfl
@[simp] theorem State.setRequest_inUse (s : State) (h : HostId) (n : Option Nat) :
    (s.setRequest h n).inUse = s.inUse := rfl
@[simp] theorem State.setRequest_delivery (s : State) (h : HostId) (n : Option Nat) :
    (s.setRequest h n).delivery = s.delivery := rfl
@[simp] theorem State.setRequest_groups (s : State) (h : HostId) (n : Option Nat) :
    (s.setRequest h n).groups = s.groups := rfl
@[simp] theorem State.setRequest_windows (s : State) (h : HostId) (n : Option Nat) :
    (s.setRequest h n).windows = s.windows := rfl
@[simp] theorem State.setRequest_events (s : State) (h : HostId) (n : Option Nat) :
    (s.setRequest h n).events = s.events := rfl

/-! ### Records after an update -/

@[simp] theorem State.setJob_job_same (s : State) (j : JobId) (r : Job) : (s.setJob j r).job j = r :=
  Table.at_put_same ..

theorem State.setJob_job (s : State) (j k : JobId) (r : Job) :
    (s.setJob j r).job k = if k = j then r else s.job k := Table.at_put ..

@[simp] theorem State.setJob_setJob (s : State) (j : JobId) (r q : Job) :
    (s.setJob j r).setJob j q = s.setJob j q := by
  simp [State.setJob]

@[simp] theorem State.setPort_port_same (s : State) (h : HostId) (p : Port) : (s.setPort h p).port h = p :=
  PerHost.get_put_same ..

theorem State.setPort_port (s : State) (h k : HostId) (p : Port) :
    (s.setPort h p).port k = if k = h then p else s.port k := PerHost.get_put ..

@[simp] theorem State.setWindow_window_same (s : State) (h : HostId) (w : WindowId) (r : Window) :
    (s.setWindow h w r).window h w = r := by
  simp [State.window]

end Sys2Proof.Machine
end

