-- ==== Sys2Proof/Laws/Kept.lean ====
section
/-! SUPPORT. What the blocks' operations never touch: the waiting commands, the reset line, the Time Base, the ALLOC
value and allowances, the host ports and the trigger lines. One lemma for each shared operation, for the provers to
cite in place of unfolding it. -/

namespace Sys2Proof.Machine

/-- The items that no operation of a block between an arrival and its decision changes. -/
structure State.Kept (s t : State) : Prop where
  pending : t.pending = s.pending
  inReset : t.inReset = s.inReset
  timeBase : t.timeBase = s.timeBase
  alloc : t.alloc = s.alloc
  ports : t.ports = s.ports
  levels : t.levels = s.levels
  allowance : t.allowance = s.allowance

theorem State.Kept.refl (s : State) : s.Kept s := ⟨rfl, rfl, rfl, rfl, rfl, rfl, rfl⟩

theorem State.Kept.trans {s t u : State} (h : s.Kept t) (k : t.Kept u) : s.Kept u :=
  ⟨k.pending.trans h.pending, k.inReset.trans h.inReset, k.timeBase.trans h.timeBase, k.alloc.trans h.alloc,
    k.ports.trans h.ports, k.levels.trans h.levels, k.allowance.trans h.allowance⟩

theorem State.Kept.foldl {α : Type} {f : State → α → State} (h : ∀ (t : State) (x : α), t.Kept (f t x))
    (l : List α) (s : State) : s.Kept (l.foldl f s) := by
  induction l generalizing s with
  | nil => exact .refl s
  | cons x l ih => exact (h s x).trans (ih (f s x))

theorem State.Kept.ite {s t u : State} {c : Prop} [Decidable c] (h : s.Kept t) (k : s.Kept u) :
    s.Kept (if c then t else u) := by
  split
  · exact h
  · exact k

variable (s : State) (j : JobId)

/-! ### Ops -/

theorem State.drawn_kept : s.Kept s.drawn := ⟨rfl, rfl, rfl, rfl, rfl, rfl, rfl⟩

theorem State.drawnFor_kept {α : Type} (l : List α) : s.Kept (s.drawnFor l) := .ite (.refl s) s.drawn_kept

theorem State.setJob_kept (r : Job) : s.Kept (s.setJob j r) := ⟨rfl, rfl, rfl, rfl, rfl, rfl, rfl⟩

theorem State.setSeq_kept (k : SeqId) (r : Seq) : s.Kept (s.setSeq k r) := ⟨rfl, rfl, rfl, rfl, rfl, rfl, rfl⟩

theorem State.setFrame_kept (f : FrameId) (r : Frame) : s.Kept (s.setFrame f r) := ⟨rfl, rfl, rfl, rfl, rfl, rfl, rfl⟩

theorem State.setGroup_kept (g : GroupId) (r : Group) : s.Kept (s.setGroup g r) := ⟨rfl, rfl, rfl, rfl, rfl, rfl, rfl⟩

theorem State.setWindow_kept (h : HostId) (w : WindowId) (r : Window) : s.Kept (s.setWindow h w r) :=
  ⟨rfl, rfl, rfl, rfl, rfl, rfl, rfl⟩

theorem State.emit_kept (h : HostId) (i : Option JobId) (f : Option FrameId) (b : EventBody) :
    s.Kept (s.emit h i f b) := ⟨rfl, rfl, rfl, rfl, rfl, rfl, rfl⟩

theorem State.emitAll_kept (b : EventBody) : s.Kept (s.emitAll b) :=
  ((s.emit_kept ..).trans (State.emit_kept ..)).trans (State.emit_kept ..)

theorem State.setStanding_kept (h : HostId) (l : Level) : s.Kept (s.setStanding h l) :=
  ⟨rfl, rfl, rfl, rfl, rfl, rfl, rfl⟩

theorem State.setTransient_kept (c : Option Level) : s.Kept (s.setTransient j c) :=
  ⟨rfl, rfl, rfl, rfl, rfl, rfl, rfl⟩

theorem State.placeClaim_kept : s.Kept (s.placeClaim j) := s.setTransient_kept j _

theorem State.removeClaim_kept : s.Kept (s.removeClaim j) := s.setTransient_kept j _

theorem State.markOccupant_kept (present : Bool) (g : GroupId) : s.Kept (s.markOccupant j present g) :=
  s.setGroup_kept ..

theorem State.occupy_kept : s.Kept (s.occupy j) := by
  unfold State.occupy; split
  · exact .refl s
  · exact .foldl (fun t g => t.markOccupant_kept j true g) _ _

theorem State.grant_kept (g : GroupId) : s.Kept (s.grant g) := (s.setGroup_kept ..).trans (State.emit_kept ..)

theorem State.vacate_kept : s.Kept (s.vacate j) := by
  unfold State.vacate; split
  · exact .refl s
  · exact ((State.Kept.foldl (fun t g => t.markOccupant_kept j false g) _ s).trans (State.drawnFor_kept _ _)).trans
      (.foldl (fun t g => t.grant_kept g) _ _)

theorem State.freeGroup_kept (g : GroupId) : s.Kept (s.freeGroup g) := s.setGroup_kept ..

theorem State.returnFrame_kept (h : HostId) (f : FrameId) : s.Kept (s.returnFrame h f) :=
  ⟨rfl, rfl, rfl, rfl, rfl, rfl, rfl⟩

theorem State.flushDelivery_kept (h : HostId) : s.Kept (s.flushDelivery h) :=
  (State.Kept.foldl (fun t f => t.returnFrame_kept h f) (s.delivery.get h) s).trans ⟨rfl, rfl, rfl, rfl, rfl, rfl, rfl⟩

theorem State.releaseFill_kept : s.Kept (s.releaseFill j) := by
  unfold State.releaseFill; split
  · exact .refl s
  · exact (s.returnFrame_kept ..).trans (State.setJob_kept ..)

theorem State.freeSeq_kept (k : SeqId) : s.Kept (s.freeSeq k) := ⟨rfl, rfl, rfl, rfl, rfl, rfl, rfl⟩

theorem State.dropReference_kept (k : SeqId) : s.Kept (s.dropReference k) :=
  .ite ((s.setSeq_kept k _).trans (State.freeSeq_kept ..)) (s.setSeq_kept k _)

theorem State.revertWindows_kept (h : HostId) : s.Kept (s.revertWindows h j) := ⟨rfl, rfl, rfl, rfl, rfl, rfl, rfl⟩

theorem State.cancelDeadline_kept : s.Kept (s.cancelDeadline j) := s.setJob_kept j _

theorem State.freeJob_kept : s.Kept (s.freeJob j) := by
  have h := ((s.setJob_kept j Job.free).trans (State.dropReference_kept _ (s.job j).seq)).trans
    (State.revertWindows_kept _ j (s.job j).owner)
  exact ⟨h.pending, h.inReset, h.timeBase, h.alloc, h.ports, h.levels, h.allowance⟩

theorem State.releaseConverter_kept : s.Kept s.releaseConverter := ⟨rfl, rfl, rfl, rfl, rfl, rfl, rfl⟩

theorem State.setRequest_kept (h : HostId) (n : Option Nat) : s.Kept (s.setRequest h n) :=
  ⟨rfl, rfl, rfl, rfl, rfl, rfl, rfl⟩

theorem State.releaseRun_kept : s.Kept (s.releaseRun j) :=
  (((s.releaseFill_kept j).trans (State.removeClaim_kept _ j)).trans (State.cancelDeadline_kept _ j)).trans
    (State.vacate_kept _ j)

end Sys2Proof.Machine
end

