-- ==== Sys2Proof/Laws/Decided.lean ====
section
/-! SUPPORT. What a run end, a queue entry and a decision of the Dispatcher never touch: besides the items of `Kept`, the
Sequence Store, the waiting presentations, the windows and the count of draws. One lemma for each shared operation. -/

namespace Sys2Proof.Machine

/-- The items that no decision changes. -/
structure State.Decided (s t : State) : Prop where
  kept : s.Kept t
  draws : t.draws = s.draws
  seqs : t.seqs = s.seqs
  freeSteps : t.freeSteps = s.freeSteps
  waiting : t.waiting = s.waiting
  windows : t.windows = s.windows

theorem State.Decided.refl (s : State) : s.Decided s := ⟨.refl s, rfl, rfl, rfl, rfl, rfl⟩

theorem State.Decided.trans {s t u : State} (h : s.Decided t) (k : t.Decided u) : s.Decided u :=
  ⟨h.kept.trans k.kept, k.draws.trans h.draws, k.seqs.trans h.seqs, k.freeSteps.trans h.freeSteps,
    k.waiting.trans h.waiting, k.windows.trans h.windows⟩

theorem State.Decided.foldl {α : Type} {f : State → α → State} (h : ∀ (t : State) (x : α), t.Decided (f t x))
    (l : List α) (s : State) : s.Decided (l.foldl f s) := by
  induction l generalizing s with
  | nil => exact .refl s
  | cons x l ih => exact (h s x).trans (ih (f s x))

theorem State.Decided.ite {s t u : State} {c : Prop} [Decidable c] (h : s.Decided t) (k : s.Decided u) :
    s.Decided (if c then t else u) := by
  split
  · exact h
  · exact k

variable (s : State) (j : JobId)

/-! ### Single updates -/

theorem State.setJob_decided (r : Job) : s.Decided (s.setJob j r) := ⟨s.setJob_kept j r, rfl, rfl, rfl, rfl, rfl⟩

theorem State.setFrame_decided (f : FrameId) (r : Frame) : s.Decided (s.setFrame f r) :=
  ⟨s.setFrame_kept f r, rfl, rfl, rfl, rfl, rfl⟩

theorem State.emit_decided (h : HostId) (i : Option JobId) (f : Option FrameId) (b : EventBody) :
    s.Decided (s.emit h i f b) := ⟨s.emit_kept h i f b, rfl, rfl, rfl, rfl, rfl⟩

theorem State.placeClaim_decided : s.Decided (s.placeClaim j) := ⟨s.placeClaim_kept j, rfl, rfl, rfl, rfl, rfl⟩

theorem State.releaseConverter_decided : s.Decided s.releaseConverter :=
  ⟨s.releaseConverter_kept, rfl, rfl, rfl, rfl, rfl⟩

theorem State.markOccupant_decided (present : Bool) (g : GroupId) : s.Decided (s.markOccupant j present g) :=
  ⟨s.markOccupant_kept j present g, rfl, rfl, rfl, rfl, rfl⟩

theorem State.occupy_decided : s.Decided (s.occupy j) := by
  unfold State.occupy; split
  · exact .refl s
  · exact .foldl (fun t g => t.markOccupant_decided j true g) _ _

/-! ### Queue, run ends and deadlines -/

theorem State.enqueue_decided : s.Decided (s.enqueue j) := ⟨.mk rfl rfl rfl rfl rfl rfl rfl, rfl, rfl, rfl, rfl, rfl⟩

theorem State.dequeue_decided : s.Decided (s.dequeue j) := ⟨.mk rfl rfl rfl rfl rfl rfl rfl, rfl, rfl, rfl, rfl, rfl⟩

theorem State.refreshBlocked_decided : s.Decided s.refreshBlocked := .foldl (fun t k => t.setJob_decided k _) _ s

theorem State.rest_decided (st : JobState) : s.Decided (s.rest j st) := by
  unfold State.rest
  dsimp only
  split
  · exact (s.setJob_decided j _).trans (State.emit_decided ..)
  · exact s.setJob_decided j _

theorem State.enterPending_decided (stamp : Time) (mark : Option EdgeMark) : s.Decided (s.enterPending j stamp mark) :=
  ⟨.mk rfl rfl rfl rfl rfl rfl rfl, rfl, rfl, rfl, rfl, rfl⟩

theorem State.endCounted_decided {late : State → State} (hl : ∀ t : State, t.Decided (late t)) :
    s.Decided (s.endCounted late j) := by
  unfold State.endCounted
  refine (s.setJob_decided j (s.job j).bookkept).trans (.ite ?_ (State.rest_decided ..))
  split
  · exact (State.enterPending_decided ..).trans (hl _)
  · exact State.setJob_decided ..

theorem State.reportLate_decided : s.Decided (s.reportLate j) :=
  ⟨.mk rfl rfl rfl rfl rfl rfl rfl, rfl, rfl, rfl, rfl, rfl⟩

theorem State.dropPending_decided {late : State → State} (hl : ∀ t : State, t.Decided (late t)) :
    s.Decided (s.dropPending late j) := by
  unfold State.dropPending
  exact ((s.dequeue_decided j).trans (State.setJob_decided ..)).trans (State.endCounted_decided _ j hl)

theorem State.latePending_decided {late : State → State} (hl : ∀ t : State, t.Decided (late t)) :
    s.Decided (s.latePending late j) := by
  refine (s.reportLate_decided j).trans ?_
  unfold State.latePending
  split
  · exact State.setJob_decided ..
  · exact State.dropPending_decided _ j hl

theorem State.expireAtOnce_decided : s.Decided (s.expireAtOnce j) :=
  .ite (s.latePending_decided j State.Decided.refl) (.refl s)

theorem State.endRun_decided : s.Decided (s.endRun j) := s.endCounted_decided j fun t => t.expireAtOnce_decided j

/-! ### Selection and decisions -/

theorem State.startStep_decided : s.Decided (s.startStep j) := by
  unfold State.startStep; split
  · exact .refl s
  · exact ⟨.mk rfl rfl rfl rfl rfl rfl rfl, rfl, rfl, rfl, rfl, rfl⟩

theorem State.run_decided : s.Decided (s.run j) := by
  unfold State.run
  exact (s.setJob_decided j _).trans (State.startStep_decided _ j)

theorem State.giveConverter_decided : s.Decided (s.giveConverter j) :=
  .ite (s.run_decided j) ⟨.mk rfl rfl rfl rfl rfl rfl rfl, rfl, rfl, rfl, rfl, rfl⟩

theorem State.reportIntrusion_decided (run : BitVec 16) : s.Decided (s.reportIntrusion j run) :=
  .foldl (fun _ _ => .ite (State.emit_decided ..) (.refl _)) _ s

theorem State.tellHolds_decided : s.Decided (s.tellHolds j) := by
  unfold State.tellHolds; split
  · exact s.occupy_decided j
  · exact s.reportIntrusion_decided j _

theorem State.startRun_decided (f : FrameId) : s.Decided (s.startRun j f) := by
  unfold State.startRun
  exact ((((s.dequeue_decided j).trans (State.setJob_decided ..)).trans (State.placeClaim_decided ..)).trans
    (State.tellHolds_decided ..)).trans (State.giveConverter_decided ..)

theorem State.takeFrame_decided (f : FrameId) (rest : List FrameId) : s.Decided (s.takeFrame j f rest) :=
  ⟨.mk rfl rfl rfl rfl rfl rfl rfl, rfl, rfl, rfl, rfl, rfl⟩

theorem State.reclaimFrame_decided (f : FrameId) (rest : List FrameId) : s.Decided (s.reclaimFrame j f rest) :=
  ⟨.mk rfl rfl rfl rfl rfl rfl rfl, rfl, rfl, rfl, rfl, rfl⟩

theorem State.refuseRun_decided : s.Decided (s.refuseRun j) := by
  unfold State.refuseRun
  exact (((s.dequeue_decided j).trans (State.setJob_decided ..)).trans (State.emit_decided ..)).trans
    (State.endRun_decided ..)

theorem State.resumeRun_decided : s.Decided (s.resumeRun j) := by
  refine (s.dequeue_decided j).trans ?_
  unfold State.resumeRun
  dsimp only
  split
  · exact State.giveConverter_decided ..
  · exact (State.setJob_decided ..).trans (State.giveConverter_decided ..)
  · exact ((State.setFrame_decided ..).trans (State.setJob_decided ..)).trans (State.giveConverter_decided ..)

theorem State.selectFrom_decided (n : Nat) : s.Decided (State.selectFrom n s) := by
  induction n generalizing s with
  | zero => exact .refl s
  | succ n ih =>
    unfold State.selectFrom
    split
    · exact .refl s
    · rename_i k _
      refine .ite (s.resumeRun_decided k) ?_
      split
      · exact (s.takeFrame_decided ..).trans (State.startRun_decided ..)
      · exact (s.reclaimFrame_decided ..).trans (State.startRun_decided ..)
      · exact (s.refuseRun_decided k).trans (ih _)

theorem State.select_decided : s.Decided s.select := s.selectFrom_decided _

theorem State.freeDecision_decided : s.Decided s.freeDecision := by
  have calibrated (t : State) (e : Engine) : t.Decided { t with engine := e } :=
    ⟨.mk rfl rfl rfl rfl rfl rfl rfl, rfl, rfl, rfl, rfl, rfl⟩
  have answered : s.Decided { s with decisionDue := false } := ⟨.mk rfl rfl rfl rfl rfl rfl rfl, rfl, rfl, rfl, rfl, rfl⟩
  have refreshed := answered.trans (State.refreshBlocked_decided _)
  unfold State.freeDecision
  dsimp only
  split
  · exact .ite (refreshed.trans (calibrated ..)) (refreshed.trans (State.select_decided _))
  · exact .ite (refreshed.trans (calibrated ..)) refreshed
  all_goals exact .refl s

theorem State.preempt_decided : s.Decided (s.preempt j) :=
  ⟨.mk rfl rfl rfl rfl rfl rfl rfl, rfl, rfl, rfl, rfl, rfl⟩

theorem State.displace_decided : s.Decided s.displace := by
  unfold State.displace; split
  · exact .refl s
  · exact ((s.preempt_decided _).trans (State.releaseConverter_decided _)).trans (State.freeDecision_decided _)

theorem State.arrival_decided : s.Decided s.arrival := .ite s.freeDecision_decided (.refl s)

theorem State.entryArrival_decided (c : JobClass) : s.Decided (s.entryArrival c) := .ite s.displace_decided s.arrival_decided

theorem State.intervalArrival_decided : s.Decided s.intervalArrival := .ite s.displace_decided s.arrival_decided

theorem State.boundaryDecision_decided : s.Decided (s.boundaryDecision j) := by
  refine s.refreshBlocked_decided.trans (.ite ?_ (State.startStep_decided ..))
  exact ((State.preempt_decided _ j).trans (State.releaseConverter_decided _)).trans (State.freeDecision_decided _)

/-! ### Triggers -/

theorem State.missTrigger_decided (source : TriggerSource) (stamp : Time) : s.Decided (s.missTrigger j source stamp) := by
  unfold State.missTrigger
  dsimp only
  split <;> exact ⟨.mk rfl rfl rfl rfl rfl rfl rfl, rfl, rfl, rfl, rfl, rfl⟩

theorem State.takeTrigger_decided (source : TriggerSource) (stamp : Time) (mark : Option EdgeMark) :
    s.Decided (s.takeTrigger j source stamp mark) := by
  unfold State.takeTrigger State.takeTriggerThen; split
  · exact ((s.enterPending_decided ..).trans (State.expireAtOnce_decided ..)).trans (State.entryArrival_decided ..)
  · exact s.setJob_decided j _
  · exact s.missTrigger_decided ..
  · exact .refl s

theorem State.edgeEntry_kept (p : Presentation) (c : JobClass) : s.Kept (s.edgeEntry p c) :=
  .ite (.ite ⟨rfl, rfl, rfl, rfl, rfl, rfl, rfl⟩ (s.drawn_kept.trans (State.freeDecision_decided _).kept))
    (s.entryArrival_decided c).kept

theorem State.settleDecision_decided (p : Presentation) : s.Decided (s.settleDecision p) :=
  .ite s.freeDecision_decided (.refl s)

/-- A presentation touches none of the items of `Kept`. -/
theorem State.present_kept (o : Origin) : s.Kept (s.present o) := by
  unfold State.present; split
  · exact .refl s
  · rename_i p _
    have taken : s.Kept { s with waiting := s.waiting.erase p } := ⟨rfl, rfl, rfl, rfl, rfl, rfl, rfl⟩
    refine (taken.trans ?_).trans (State.settleDecision_decided _ p).kept
    unfold State.takeTriggerThen; split
    · exact (((State.enterPending_decided ..).trans (State.expireAtOnce_decided ..)).kept).trans (State.edgeEntry_kept ..)
    · exact (State.setJob_decided ..).kept
    · exact (State.missTrigger_decided ..).kept
    · exact .refl _

end Sys2Proof.Machine
end

