-- ==== Sys2Proof/Laws/Ops.lean ====
section
/-! SUPPORT. What the shared operations answer: queue placement, event queues, levels, timers and the taking of a
command, each said once. -/

namespace Sys2Proof.Machine

/-! ### Taking a command and an arrival -/

theorem State.carries_iff (s : State) (h : HostId) (i : Instr) :
    s.carries h i = true ↔ s.inReset = false ∧ (s.port h).inHand = some i := by
  simp [State.carries]

theorem State.take_of_inHand {s : State} {h : HostId} {i : Instr} (block : State → Reply) (hr : s.inReset = false)
    (hi : (s.port h).inHand = some i) :
    s.take h i block = (block s).state.respond h (block s).status (block s).payload :=
  if_pos ((s.carries_iff h i).2 ⟨hr, hi⟩)

theorem State.take_of_not {s : State} {h : HostId} {i : Instr} (block : State → Reply)
    (hn : ¬ (s.inReset = false ∧ (s.port h).inHand = some i)) : s.take h i block = s :=
  if_neg fun hc => hn ((s.carries_iff h i).1 hc)

theorem State.live_of_working {s : State} (f : State → State) (hr : s.inReset = false) : s.live f = f s := by
  simp [State.live, hr]

theorem State.live_of_reset {s : State} (f : State → State) (hr : s.inReset = true) : s.live f = s := by
  simp [State.live, hr]

theorem expecting_of_length {n : Nat} {args : List Byte} (block : State → Reply) (s : State) (h : args.length = n) :
    expecting n args block s = block s := if_pos h

theorem expecting_of_wrong_length {n : Nat} {args : List Byte} (block : State → Reply) (s : State)
    (h : args.length ≠ n) : expecting n args block s = ⟨s, .badArgument, []⟩ := if_neg h

@[simp] theorem State.respond_ports (s : State) (h : HostId) (st : Status) (p : List Byte) :
    (s.respond h st p).ports = s.ports.put h { s.port h with
      inHand := none, prepared := some ⟨st, (s.port h).tagInHand, p⟩ } := rfl

theorem index?_some {n v : Nat} (h : v < n) : index? n v = some ⟨v, h⟩ := dif_pos h

theorem index?_none {n v : Nat} (h : n ≤ v) : index? n v = none := dif_neg (Nat.not_lt.2 h)

/-- What the first three checks of a job command answer. -/
theorem State.commandedJob_ok_iff (s : State) (h : HostId) (args : List Byte) (j : JobId) :
    s.commandedJob h args = .ok j ↔
      argByte args 0 = j.val ∧ (s.job j).gone = false ∧ (s.job j).owner = h := by
  unfold State.commandedJob
  by_cases hv : argByte args 0 < 24
  · rw [index?_some hv]
    dsimp only
    constructor
    · intro hk
      split at hk
      · cases hk
      · split at hk
        · cases hk
        · cases hk; simp_all
    · rintro ⟨hj, hg, ho⟩
      have hj : (⟨argByte args 0, hv⟩ : JobId) = j := Fin.ext hj
      subst hj
      simp [hg, ho]
  · rw [index?_none (Nat.le_of_not_lt hv)]
    constructor
    · intro hk; cases hk
    · rintro ⟨hj, -⟩; exact absurd j.isLt (by omega)

/-! ### Event queues -/

theorem EventQueue.push_cases (q : EventQueue) (e : Event) :
    (q.queue.length < 16 ∧ q.push e = ⟨q.queue ++ [e], q.loss, true⟩) ∨
    (16 ≤ q.queue.length ∧ q.push e = ⟨q.queue, min 255 (q.loss + 1), true⟩) := by
  unfold EventQueue.push saturate
  split
  · exact .inl ⟨‹_›, rfl⟩
  · exact .inr ⟨by omega, rfl⟩

/-! ### The dispatch queue -/

theorem placeInQueue_perm (before : JobId → Bool) (j : JobId) (l : List JobId) :
    (placeInQueue before j l).Perm (j :: l) := by
  induction l with
  | nil => exact .refl _
  | cons k ks ih =>
    unfold placeInQueue
    split
    · exact .refl _
    · exact (ih.cons k).trans (.swap j k ks)

theorem mem_placeInQueue {before : JobId → Bool} {j k : JobId} {l : List JobId} :
    k ∈ placeInQueue before j l ↔ k = j ∨ k ∈ l := by
  rw [(placeInQueue_perm before j l).mem_iff, List.mem_cons]

@[simp] theorem State.enqueue_jobs (s : State) (j : JobId) :
    (s.enqueue j).jobs = s.jobs.put j { s.job j with blocked := false } := rfl

@[simp] theorem State.dequeue_jobs (s : State) (j : JobId) :
    (s.dequeue j).jobs = s.jobs.put j { s.job j with blocked := false } := rfl

@[simp] theorem State.dequeue_queue (s : State) (j : JobId) : (s.dequeue j).queue = s.queue.erase j := rfl

theorem State.mem_enqueue {s : State} {j k : JobId} : k ∈ (s.enqueue j).queue ↔ k = j ∨ k ∈ s.queue :=
  mem_placeInQueue

/-! ### Levels -/

theorem Level.rank_injective {a b : Level} (h : a.rank = b.rank) : a = b := by
  cases a <;> cases b <;> first | rfl | cases h

theorem Level.max_rank (a b : Level) : (a.max b).rank = Nat.max a.rank b.rank := by
  cases a <;> cases b <;> rfl

theorem Level.min_rank (a b : Level) : (a.min b).rank = Nat.min a.rank b.rank := by
  cases a <;> cases b <;> rfl

@[simp] theorem Excitation.recompute_standing (e : Excitation) (now : Time) :
    (e.recompute now).standing = e.standing := by
  unfold Excitation.recompute Excitation.raiseTo Excitation.dropTo
  split
  · rfl
  · split
    · split
      · rfl
      · split <;> rfl
    · rfl

@[simp] theorem Excitation.recompute_transient (e : Excitation) (now : Time) :
    (e.recompute now).transient = e.transient := by
  unfold Excitation.recompute Excitation.raiseTo Excitation.dropTo
  split
  · rfl
  · split
    · split
      · rfl
      · split <;> rfl
    · rfl

@[simp] theorem Excitation.recompute_output (e : Excitation) (now : Time) :
    (e.recompute now).output = e.claimed := by
  unfold Excitation.recompute Excitation.raiseTo Excitation.dropTo
  split
  · rfl
  · split
    · split
      · rfl
      · split <;> rfl
    · exact Level.rank_injective (by omega)

/-! ### The clocks of a transaction -/

@[simp] theorem Port.clocked_nil (p : Port) : p.clocked [] = p := rfl

@[simp] theorem Port.clocked_cons (p : Port) (b : Bool) (sdi : List Bool) :
    p.clocked (b :: sdi) = ((p.sckRise b).sckFall).clocked sdi := rfl

theorem Port.clocked_append (p : Port) (a b : List Bool) : p.clocked (a ++ b) = (p.clocked a).clocked b :=
  List.foldl_append

/-- With CS_N high and in LOCKED_OUT clocks have no effect. -/
theorem Port.clocked_of_not_shifting {p : Port} (h : p.transaction ≠ .shifting) (sdi : List Bool) :
    p.clocked sdi = p := by
  induction sdi with
  | nil => rfl
  | cons b sdi ih =>
    have hr : (p.sckRise b).sckFall = p := by
      unfold Port.sckRise
      split <;> simp_all [Port.sckFall]
    rw [Port.clocked_cons, hr, ih]

/-! ### Counters and moments -/

theorem saturate_le (limit n : Nat) : saturate limit n ≤ limit := Nat.min_le_left ..

theorem reached_iff (now t : Time) : reached now t = true ↔ (now - t).toNat < 2 ^ 31 := by
  unfold reached age; exact decide_eq_true_iff

theorem insertRanked_perm {α : Type} (rank : α → Nat) (x : α) (l : List α) :
    (insertRanked rank x l).Perm (x :: l) := by
  induction l with
  | nil => exact .refl _
  | cons y ys ih =>
    unfold insertRanked
    split
    · exact .refl _
    · exact (ih.cons y).trans (.swap x y ys)

/-- An open order is an order of the same items. -/
theorem sortRanked_perm {α : Type} (rank : α → Nat) (l : List α) : (sortRanked rank l).Perm l := by
  induction l with
  | nil => exact .refl _
  | cons x xs ih => exact (insertRanked_perm rank x _).trans (ih.cons x)

end Sys2Proof.Machine
end

