-- ==== Sys2Proof/Laws/PerInstr.lean ====
section
/-! SUPPORT. Statements about every command, one lemma for each constructor. -/

namespace Sys2Proof.Laws

/-- The code and caller of a command lead a port back to that command (Table 12-4); a row that comes through no frame has
neither. -/
def FrameCode.Statement (i : Instr) : Prop :=
  (i.code.isSome = i.caller.isSome) ∧
  ∀ h c, i.caller = some h → i.code = some c → commandOf h c i.argBytes = some i

theorem FrameCode.resetNAssert :
    FrameCode.Statement .resetNAssert := ⟨rfl, fun _ _ hh => nomatch hh⟩

theorem FrameCode.resetNRelease (alloc : BitVec 2) (levels : LineLevels) (csLow : PerHost Bool) :
    FrameCode.Statement (.resetNRelease alloc levels csLow) := ⟨rfl, fun _ _ hh => nomatch hh⟩

theorem FrameCode.transactionBegin (h : HostId) :
    FrameCode.Statement (.transactionBegin h) := ⟨rfl, fun _ _ hh => nomatch hh⟩

theorem FrameCode.transactionEnd (h : HostId) (sdi : List Bool) :
    FrameCode.Statement (.transactionEnd h sdi) := ⟨rfl, fun _ _ hh => nomatch hh⟩

theorem FrameCode.responseReady (h : HostId) :
    FrameCode.Statement (.responseReady h) := ⟨rfl, fun _ _ hh => nomatch hh⟩

theorem FrameCode.nop (h : HostId) (args : List Byte) : FrameCode.Statement (.nop h args) :=
  ⟨rfl, fun _ _ hh hc => by cases hh; cases hc; rfl⟩

theorem FrameCode.status (h : HostId) (args : List Byte) : FrameCode.Statement (.status h args) :=
  ⟨rfl, fun _ _ hh hc => by cases hh; cases hc; rfl⟩

theorem FrameCode.defineSeq (h : HostId) (args : List Byte) : FrameCode.Statement (.defineSeq h args) :=
  ⟨rfl, fun _ _ hh hc => by cases hh; cases hc; rfl⟩

theorem FrameCode.deleteSeq (h : HostId) (args : List Byte) : FrameCode.Statement (.deleteSeq h args) :=
  ⟨rfl, fun _ _ hh hc => by cases hh; cases hc; rfl⟩

theorem FrameCode.readSeq (h : HostId) (args : List Byte) : FrameCode.Statement (.readSeq h args) :=
  ⟨rfl, fun _ _ hh hc => by cases hh; cases hc; rfl⟩

theorem FrameCode.createJob (h : HostId) (args : List Byte) : FrameCode.Statement (.createJob h args) :=
  ⟨rfl, fun _ _ hh hc => by cases hh; cases hc; rfl⟩

theorem FrameCode.armJob (h : HostId) (args : List Byte) : FrameCode.Statement (.armJob h args) :=
  ⟨rfl, fun _ _ hh hc => by cases hh; cases hc; rfl⟩

theorem FrameCode.disarmJob (h : HostId) (args : List Byte) : FrameCode.Statement (.disarmJob h args) :=
  ⟨rfl, fun _ _ hh hc => by cases hh; cases hc; rfl⟩

theorem FrameCode.startJob (h : HostId) (args : List Byte) : FrameCode.Statement (.startJob h args) :=
  ⟨rfl, fun _ _ hh hc => by cases hh; cases hc; rfl⟩

theorem FrameCode.abortJob (h : HostId) (args : List Byte) : FrameCode.Statement (.abortJob h args) :=
  ⟨rfl, fun _ _ hh hc => by cases hh; cases hc; rfl⟩

theorem FrameCode.deleteJob (h : HostId) (args : List Byte) : FrameCode.Statement (.deleteJob h args) :=
  ⟨rfl, fun _ _ hh hc => by cases hh; cases hc; rfl⟩

theorem FrameCode.jobStatus (h : HostId) (args : List Byte) : FrameCode.Statement (.jobStatus h args) :=
  ⟨rfl, fun _ _ hh hc => by cases hh; cases hc; rfl⟩

theorem FrameCode.fetchFrame (h : HostId) (args : List Byte) : FrameCode.Statement (.fetchFrame h args) :=
  ⟨rfl, fun _ _ hh hc => by cases hh; cases hc; rfl⟩

theorem FrameCode.flushFrames (h : HostId) (args : List Byte) : FrameCode.Statement (.flushFrames h args) :=
  ⟨rfl, fun _ _ hh hc => by cases hh; cases hc; rfl⟩

theorem FrameCode.setWindow (h : HostId) (args : List Byte) : FrameCode.Statement (.setWindow h args) :=
  ⟨rfl, fun _ _ hh hc => by cases hh; cases hc; rfl⟩

theorem FrameCode.clearWindow (h : HostId) (args : List Byte) : FrameCode.Statement (.clearWindow h args) :=
  ⟨rfl, fun _ _ hh hc => by cases hh; cases hc; rfl⟩

theorem FrameCode.acquireHold (h : HostId) (args : List Byte) : FrameCode.Statement (.acquireHold h args) :=
  ⟨rfl, fun _ _ hh hc => by cases hh; cases hc; rfl⟩

theorem FrameCode.renewHold (h : HostId) (args : List Byte) : FrameCode.Statement (.renewHold h args) :=
  ⟨rfl, fun _ _ hh hc => by cases hh; cases hc; rfl⟩

theorem FrameCode.releaseHold (h : HostId) (args : List Byte) : FrameCode.Statement (.releaseHold h args) :=
  ⟨rfl, fun _ _ hh hc => by cases hh; cases hc; rfl⟩

theorem FrameCode.claimExc (h : HostId) (args : List Byte) : FrameCode.Statement (.claimExc h args) :=
  ⟨rfl, fun _ _ hh hc => by cases hh; cases hc; rfl⟩

theorem FrameCode.requestCal (h : HostId) (args : List Byte) : FrameCode.Statement (.requestCal h args) :=
  ⟨rfl, fun _ _ hh hc => by cases hh; cases hc; rfl⟩

theorem FrameCode.setCalInterval (h : HostId) (args : List Byte) : FrameCode.Statement (.setCalInterval h args) :=
  ⟨rfl, fun _ _ hh hc => by cases hh; cases hc; rfl⟩

theorem FrameCode.readEvents (h : HostId) (args : List Byte) : FrameCode.Statement (.readEvents h args) :=
  ⟨rfl, fun _ _ hh hc => by cases hh; cases hc; rfl⟩

theorem FrameCode.hostReset (h : HostId) (args : List Byte) : FrameCode.Statement (.hostReset h args) :=
  ⟨rfl, fun _ _ hh hc => by cases hh; cases hc; rfl⟩

theorem FrameCode.trigEdge (h : HostId) :
    FrameCode.Statement (.trigEdge h) := ⟨rfl, fun _ _ hh => nomatch hh⟩

theorem FrameCode.xtEdge (n : XtLine) :
    FrameCode.Statement (.xtEdge n) := ⟨rfl, fun _ _ hh => nomatch hh⟩

theorem FrameCode.periodExpiry (j : JobId) :
    FrameCode.Statement (.periodExpiry j) := ⟨rfl, fun _ _ hh => nomatch hh⟩

theorem FrameCode.triggerPresented (o : Origin) :
    FrameCode.Statement (.triggerPresented o) := ⟨rfl, fun _ _ hh => nomatch hh⟩

theorem FrameCode.stepComplete (code : BitVec 12) :
    FrameCode.Statement (.stepComplete code) := ⟨rfl, fun _ _ hh => nomatch hh⟩

theorem FrameCode.calibrationComplete (result : CalResult) :
    FrameCode.Statement (.calibrationComplete result) := ⟨rfl, fun _ _ hh => nomatch hh⟩

theorem FrameCode.settleExpiry :
    FrameCode.Statement .settleExpiry := ⟨rfl, fun _ _ hh => nomatch hh⟩

theorem FrameCode.deadlineExpiry (j : JobId) :
    FrameCode.Statement (.deadlineExpiry j) := ⟨rfl, fun _ _ hh => nomatch hh⟩

theorem FrameCode.leaseExpiry (g : GroupId) :
    FrameCode.Statement (.leaseExpiry g) := ⟨rfl, fun _ _ hh => nomatch hh⟩

theorem FrameCode.triggerLineFallingEdge (l : Line) :
    FrameCode.Statement (.triggerLineFallingEdge l) := ⟨rfl, fun _ _ hh => nomatch hh⟩

end Sys2Proof.Laws
end

