-- ==== Sys2Proof/Tests/Slice0.lean ====
section
/-! SUPPORT. Tests on small states: what the part answers to each command, with the expected values from the
specification's rules, tables and worked examples; then, for each statement for the provers, a state and operands that
meet its hypotheses. -/

set_option Elab.async false

open Sys2Proof Sys2Proof.Machine

namespace Sys2Proof.Tests

/-! ### Small states -/

/-- All trigger lines low. -/
def low : LineLevels := ⟨PerHost.same false, Vector.replicate 4 false⟩

/-- The part at work with the converter in IDLE, no events and nothing defined. -/
def idle : State :=
  { releasedState 0 low (PerHost.same false) with
    engine := { Engine.reset with state := .idle, stale := false }
    events := PerHost.same EventQueue.reset }

/-- A port of this host is WAITING with a command in hand with tag 7. -/
def offer (s : State) (h : HostId) (i : Instr) : State :=
  s.setPort h { s.port h with inHand := some i, tagInHand := 7, slot := none, readiness := .waiting, prepared := none }

/-- The state after a command, which every command has. -/
def after (i : Instr) (s : State) : State :=
  match exec i s with
  | .next t => t
  | .fault _ => s
  | .refused _ => s

/-- The response prepared for H0 after a command in hand is taken. -/
def reply (i : Instr) (s : State) : Option Response := ((after i (offer s .h0 i)).port .h0).prepared

/-- A sequence of H0 with two steps, on AIN0 and AIN4, at minimum LOW. -/
def twoSteps : Seq := ⟨true, some .h0, .shared, .low, [⟨0, .x1, 0, some 2⟩, ⟨4, .x2, 1, none⟩], 3⟩

/-- A sequence of H0 with one step on AIN0, at minimum OFF. -/
def oneStep : Seq := ⟨true, some .h0, .priv, .off, [⟨0, .x1, 0, none⟩], 1⟩

/-- A job of H0 in a state, naming sequence 0, with a deadline of 50 µs. -/
def jobIn (st : JobState) : Job := { Job.free with state := st, deadline := some 50 }

/-- Jobs 1 to 8 of H0 stand in the eight states other than FREE, in the order of Table 1-2, 4 to 7 with a frame of their
own number; job 9 is torn down. -/
def world : State :=
  { idle with
    seqs := (idle.seqs.put 0 twoSteps).put 1 oneStep
    jobs := ((((((((idle.jobs.put 1 (jobIn .idle)).put 2 (jobIn .armed)).put 3 (jobIn .pending)).put 4
      { jobIn .settling with fillFrame := some 4 }).put 5 { jobIn .running with fillFrame := some 5 }).put 6
      { jobIn .preempted with fillFrame := some 6 }).put 7
      { jobIn .stopping with fillFrame := some 7, stopReason := some .abort }).put 8 (jobIn .done)).put 9
      { jobIn .stopping with stopReason := some .teardown }
    queue := [6, 3] }

theorem offer_offered {s : State} (h : HostId) (i : Instr) (hs : s.inReset = false) : (offer s h i).Offered h i :=
  ⟨hs, by simp [offer, State.port]⟩

/-! ### Commands and frames -/

/-- The length field ends at 60 (Table 12-1): the smoke test of the one check of well-formedness. -/
theorem test_wf_refuses_61_arguments : (Instr.nop .h0 (List.replicate 61 0)).wf = false := by decide

theorem test_wf_accepts_60_arguments : (Instr.nop .h0 (List.replicate 60 0)).wf = true := by decide

/-- The table gives no bits, so no word spells a command. -/
theorem test_no_word_decodes : decodeTableWord 16 0x0001 = none := by decide

/-- The check value of the CRC over the digits 1 to 9 (R187). -/
theorem test_crc_of_digits : crc8 [0x31, 0x32, 0x33, 0x34, 0x35, 0x36, 0x37, 0x38, 0x39] = 0xF4 := by decide +kernel

/-- The frame of a NOP with tag 1 that R187 writes out, with filler 0. -/
def nopFrame : List Byte := [0x01, 0x01, 0x00, 0x7E] ++ List.replicate 60 0

/-- The levels of SDI that carry some bytes, the most significant bit of each first (R170). -/
def levelsOf (bytes : List Byte) : List Bool := bytes.flatMap fun b => (List.range 8).map b.getMsbD

theorem test_nop_frame_is_sent : (Instr.nop .h1 []).toFrame 1 0 = some nopFrame := by decide +kernel

theorem test_nop_frame_is_read : checkFrame .h1 nopFrame = .command (.nop .h1 []) := by decide +kernel

/-! ### One or two tests for each command -/

theorem test_reset_assert_empties :
    (after .resetNAssert world).inReset = true ∧ (after .resetNAssert world).queue = [] := by decide +kernel

/-- ALLOC 01 gives H0 24 frames and the others 12 (Table 3-3). -/
theorem test_release_sets_allowances :
    (after (.resetNRelease 1 low (PerHost.same false)) State.reset).allowance = ⟨24, 12, 12⟩ := by decide +kernel

theorem test_release_calibrates :
    (after (.resetNRelease 0 low (PerHost.same false)) State.reset).engine.state = .calibrating := by decide +kernel

/-- The slot after reset holds STARTUP, status 0x21 (Table 12-3), with tag 0. -/
theorem test_first_response_is_startup :
    (((after (.transactionBegin .h0) idle).port .h0).image).take 3 = [0x21, 0, 0] := by decide +kernel

theorem test_nop_transaction_puts_nop_in_hand :
    ((after (.transactionEnd .h0 (levelsOf nopFrame)) (after (.transactionBegin .h0) idle)).port .h0).inHand
      = some (.nop .h0 []) := by decide +kernel

/-- 63 whole bytes and a partial byte of 7 bits are short (R171). -/
theorem test_511_clocks_are_short :
    ((after (.transactionEnd .h0 ((levelsOf nopFrame).take 511)) (after (.transactionBegin .h0) idle)).port .h0).inHand
      = none := by decide +kernel

/-- STARTUP is 0x21: its third bit is the first one (R170, Table 12-3). After byte 63 SDO carries ones (R171). -/
theorem test_sdo_shifts_the_image :
    let p := (after (.transactionBegin .h0) idle).port .h0
    [p.sdo, (p.clocked [true, true]).sdo, (p.clocked (List.replicate 8 true)).sdo,
      (p.clocked (List.replicate 512 true)).sdo] = [some false, some true, some false, some true] := by decide +kernel

theorem test_response_ready_places :
    ((after (.responseReady .h0) (after (.nop .h0 []) (offer idle .h0 (.nop .h0 [])))).port .h0).slot
      = some ⟨.ok, 7, []⟩ := by decide +kernel

theorem test_nop : reply (.nop .h0 []) idle = some ⟨.ok, 7, []⟩ := by decide +kernel

theorem test_nop_with_argument : reply (.nop .h0 [0]) idle = some ⟨.badArgument, 7, []⟩ := by decide +kernel

theorem test_status_has_57_bytes :
    (reply (.status .h0 []) world).map (fun r => r.payload.length) = some 57 := by decide +kernel

theorem test_define_seq_takes_lowest_free :
    reply (.defineSeq .h0 [0xFF, 0, 1, 2, 0x00, 0x20, 0x41, 0xF1]) world = some ⟨.ok, 7, [2]⟩ := by decide +kernel

theorem test_define_seq_gain_code :
    reply (.defineSeq .h0 [0xFF, 0, 1, 1, 0x04, 0xF0]) world = some ⟨.badArgument, 7, []⟩ := by decide +kernel

theorem test_delete_seq_in_use : reply (.deleteSeq .h0 [1]) world = some ⟨.inUse, 7, []⟩ := by decide +kernel

theorem test_read_seq :
    reply (.readSeq .h0 [0]) world = some ⟨.ok, 7, [0, 0, 1, 1, 3, 2, 0x00, 0x20, 0x41, 0xF1]⟩ := by decide +kernel

theorem test_create_job_lowest :
    reply (.createJob .h0 [1, 1, 3, 6, 0, 0, 20, 0, 1, 5, 0, 0, 0, 0, 0]) world = some ⟨.ok, 7, [0]⟩ := by
  decide +kernel

theorem test_create_job_short_period :
    reply (.createJob .h0 [1, 1, 3, 6, 0, 0, 19, 0, 1, 5, 0, 0, 0, 0, 0]) world = some ⟨.badArgument, 7, []⟩ := by
  decide +kernel

theorem test_arm_job : ((after (.armJob .h0 [1]) (offer world .h0 (.armJob .h0 [1]))).job 1).state = .armed := by
  decide +kernel

theorem test_arm_job_running : reply (.armJob .h0 [5]) world = some ⟨.wrongState, 7, []⟩ := by decide +kernel

theorem test_disarm_job_running :
    ((after (.disarmJob .h0 [5]) (offer world .h0 (.disarmJob .h0 [5]))).job 5).disarmPending = true := by
  decide +kernel

/-- Outcome LATCHED is code 1 (Table 12-5). -/
theorem test_start_job_latched : reply (.startJob .h0 [3]) world = some ⟨.ok, 7, [1]⟩ := by decide +kernel

theorem test_start_job_idle : reply (.startJob .h0 [1]) world = some ⟨.wrongState, 7, []⟩ := by decide +kernel

theorem test_abort_job_running :
    ((after (.abortJob .h0 [5]) (offer world .h0 (.abortJob .h0 [5]))).job 5).stopReason = some .abort := by
  decide +kernel

theorem test_delete_job_done :
    ((after (.deleteJob .h0 [8]) (offer world .h0 (.deleteJob .h0 [8]))).job 8).state = .free := by decide +kernel

theorem test_job_status_of_torn_down : reply (.jobStatus .h0 [9]) world = some ⟨.badArgument, 7, []⟩ := by
  decide +kernel

theorem test_job_status_first_bytes :
    (reply (.jobStatus .h0 [6]) world).map (fun r => r.payload.take 2) = some [6, 0x06] := by decide +kernel

theorem test_fetch_nothing : reply (.fetchFrame .h0 []) world = some ⟨.empty, 7, []⟩ := by decide +kernel

/-- A frame that holds the code 0x123 from AIN4 at gain 2, zone ABOVE: bytes 0x47, 0x01, 0x23 (Table 12-7). -/
theorem test_fetch_sample_bytes :
    let f : Frame := { Frame.free with
      state := .complete, sampleCount := 1
      samples := Frame.free.samples.put 0 ⟨true, 0, 4, .x2, 0x123, false, .above⟩ }
    (reply (.fetchFrame .h0 []) { idle with frames := idle.frames.put 2 f, delivery := ⟨[2], [], []⟩ }).map
      (fun r => r.payload.drop 11) = some [1, 0x47, 0x01, 0x23] := by decide +kernel

theorem test_flush_nothing : reply (.flushFrames .h0 []) world = some ⟨.ok, 7, [0]⟩ := by decide +kernel

theorem test_set_window : reply (.setWindow .h0 [2, 0x03, 0xE8, 0x0B, 0xB8, 0]) idle = some ⟨.ok, 7, []⟩ := by
  decide +kernel

theorem test_set_window_limits_out_of_order :
    reply (.setWindow .h0 [2, 0x0B, 0xB8, 0x03, 0xE8, 0]) idle = some ⟨.badArgument, 7, []⟩ := by decide +kernel

theorem test_clear_window_disables :
    let t := idle.setWindow .h0 3 ⟨true, 0, 4095, .notify, .inside⟩
    ((after (.clearWindow .h0 [3]) (offer t .h0 (.clearWindow .h0 [3]))).window .h0 3).enabled = false := by
  decide +kernel

theorem test_clear_window_index_4 : reply (.clearWindow .h0 [4]) idle = some ⟨.badArgument, 7, []⟩ := by
  decide +kernel

/-- A lease of 5 ms is 5,000 µs, 0x1388 (R142). -/
theorem test_acquire_hold_granted :
    reply (.acquireHold .h0 [1, 5]) idle = some ⟨.ok, 7, [0, 0, 0, 0x13, 0x88]⟩ := by decide +kernel

theorem test_acquire_hold_lease_0 : reply (.acquireHold .h0 [1, 0]) idle = some ⟨.badArgument, 7, []⟩ := by
  decide +kernel

theorem test_renew_hold_of_free : reply (.renewHold .h0 [1]) idle = some ⟨.wrongState, 7, []⟩ := by decide +kernel

theorem test_release_hold_of_free : reply (.releaseHold .h0 [1]) idle = some ⟨.wrongState, 7, []⟩ := by
  decide +kernel

/-- EXC goes to MID at once and settles 80 µs later (Table 7-2). -/
theorem test_claim_exc_mid : reply (.claimExc .h0 [2]) idle = some ⟨.ok, 7, [2, 2, 0]⟩ := by decide +kernel

theorem test_claim_exc_settle_time :
    (after (.claimExc .h0 [2]) (offer idle .h0 (.claimExc .h0 [2]))).exc.expiry = 80 := by decide +kernel

/-- EXC drives 2.5 V at MID (Table 12-11). -/
theorem test_exc_voltage_mid :
    (after (.claimExc .h0 [2]) (offer idle .h0 (.claimExc .h0 [2]))).excMillivolts = 2500 := by decide +kernel

theorem test_request_cal_starts_one :
    (after (.requestCal .h0 []) (offer idle .h0 (.requestCal .h0 []))).engine.cause = .requested := by decide +kernel

theorem test_cal_interval : reply (.setCalInterval .h0 [1, 0]) idle = some ⟨.ok, 7, [1, 0]⟩ := by decide +kernel

theorem test_cal_interval_255 : reply (.setCalInterval .h0 [0, 255]) idle = some ⟨.badArgument, 7, []⟩ := by
  decide +kernel

theorem test_read_events_none : reply (.readEvents .h0 [3]) idle = some ⟨.empty, 7, []⟩ := by decide +kernel

theorem test_read_events_8 : reply (.readEvents .h0 [8]) idle = some ⟨.badArgument, 7, []⟩ := by decide +kernel

/-- HOLD_GRANTED of G2 with a lease of 5 ms to 0x00011388 at 0x00010000 (Table 12-10). -/
theorem test_hold_granted_record :
    (Event.mk 0x10000 none none (.holdGranted 2 5 0x11388)).image = [0x09, 0, 0, 2, 5, 0x13, 0x88, 0] := by
  decide +kernel

/-- `world` with one job at most that gives a frame back at teardown, so that no order is open. -/
def oneHolder : State := world.setJob 6 Job.free

theorem test_host_reset_frees :
    ((after (.hostReset .h0 []) (offer oneHolder .h0 (.hostReset .h0 []))).job 3).state = .free := by decide +kernel

theorem test_host_reset_keeps_the_running_record :
    ((after (.hostReset .h0 []) (offer oneHolder .h0 (.hostReset .h0 []))).job 5).stopReason = some .teardown := by
  decide +kernel

/-- Job 4 has the converter in SETTLING, and nothing else is queued. -/
def settlingAlone : State :=
  { world with queue := [], engine := { world.engine with state := .settling, settlingJob := some 4 } }

/-- H1 asked for the only interval request, 8,000, and 4,160 steps are counted: its withdrawal makes calibration overdue
while H0's ROUTINE job 4 settles (R39, R41). -/
def lenient : State :=
  { settlingAlone with
    engine := { settlingAlone.engine with counter := 4160, requests := ⟨none, some 8000, none⟩, effective := 8000 } }

theorem test_host_reset_displaces :
    let t := after (.hostReset .h1 []) (offer lenient .h1 (.hostReset .h1 []))
    (t.job 4).state = .preempted ∧ t.engine.state = .calibrating ∧ t.engine.cause = .overdue := by decide +kernel

/-- H2 waits for job 4 of H0 to leave G0, and one presentation is fixed for job 3 of H0 and one for job 10 of H1. -/
def leaving : State :=
  { settlingAlone with
    jobs := (settlingAlone.jobs.put 6 Job.free).put 10 { jobIn .armed with owner := .h1 }
    groups := settlingAlone.groups.put 0 ⟨.pending, .h2, 1, 0, (Vector.replicate 24 false).set 4 true⟩
    waiting := [⟨.line (.xt 0), 3, .xt 0, 0, none⟩, ⟨.line (.xt 0), 10, .xt 0, 0, none⟩] }

theorem test_host_reset_grants_and_skips :
    let t := after (.hostReset .h0 []) (offer leaving .h0 (.hostReset .h0 []))
    (t.groups.at 0).state = .held ∧ (t.groups.at 0).expiry = 1000 ∧ t.waiting.map Presentation.job = [10] := by
  decide +kernel

/-- EXC settles to HIGH for H0's claim, until 100, above a LOW claim of H1. -/
def heated (e : Excitation) : Excitation :=
  { e with standing := ⟨.high, .low, .off⟩, output := .high, settled := .off, target := some .high, expiry := 100 }

/-- The settling begins afresh toward LOW, 40 µs from the drop (R133, R136, Table 7-2). -/
theorem test_host_reset_restarts_the_settling :
    let s := { idle with timeBase := 10, exc := heated idle.exc }
    let t := after (.hostReset .h0 []) (offer s .h0 (.hostReset .h0 []))
    t.exc.target = some .low ∧ t.exc.expiry = 50 ∧ t.exc.settled = .off := by decide +kernel

/-- A settling toward another host's claim goes on (R184). -/
theorem test_host_reset_keeps_the_settling :
    let s := { idle with timeBase := 10, exc := heated idle.exc }
    let t := after (.hostReset .h1 []) (offer s .h1 (.hostReset .h1 []))
    t.exc.target = some .high ∧ t.exc.expiry = 100 := by decide +kernel

/-- Two jobs of one XT line: two presentations with the edge mark (R80). -/
def lineWorld : State :=
  { world with
    jobs := (world.jobs.put 2 { jobIn .armed with source := .xt 1 }).put 10
      { jobIn .armed with source := .xt 1, owner := .h2 } }

theorem test_xt_edge_reaches_both :
    (after (.xtEdge 1) lineWorld).waiting.map (fun p => (p.job, p.mark)) =
      [(2, some ⟨1, 0⟩), (10, some ⟨1, 0⟩)] := by decide +kernel

theorem test_xt_edge_twice_without_fall :
    (after (.xtEdge 1) (after (.xtEdge 1) lineWorld)).waiting.length = 2 := by decide +kernel

theorem test_fall_makes_the_next_edge :
    (after (.xtEdge 1) (after (.triggerLineFallingEdge (.xt 1)) (after (.xtEdge 1) lineWorld))).waiting.length = 4 := by
  decide +kernel

theorem test_trig_edge_of_another_host :
    (after (.trigEdge .h1) { world with jobs := world.jobs.put 2 { jobIn .armed with source := .hostLine } }).waiting
      = [] := by decide +kernel

theorem test_presented_trigger_queues :
    ((after (.triggerPresented (.line (.xt 1))) (after (.xtEdge 1) { lineWorld with
      engine := { lineWorld.engine with state := .calibrating } })).job 2).state = .pending := by decide +kernel

/-- The next expiry is one period after the last, not after the moment it is taken (R83). -/
def periodWorld : State :=
  { world with
    timeBase := 130, jobs := world.jobs.put 3 { jobIn .pending with
      source := .period, period := some 100, periodTimer := some 120 } }

theorem test_period_grid : ((after (.periodExpiry 3) periodWorld).job 3).periodTimer = some 220 := by decide +kernel

theorem test_period_not_reached :
    ((after (.periodExpiry 3) { periodWorld with timeBase := 119 }).job 3).periodTimer = some 120 := by decide +kernel

/-- Job 5 converts step 0 of sequence 0, started at 100 with settle extension 0: it completes at 103 (R109). -/
def stepping (now : Time) : State :=
  { world with
    timeBase := now
    engine := { world.engine with state := .converting, step := some ⟨5, 0, 0, .x1, 0, 100⟩ } }

theorem test_step_not_over_at_102 : (after (.stepComplete 9) (stepping 102)).engine.counter = 0 := by decide +kernel

theorem test_step_over_at_103 :
    (((after (.stepComplete 9) (stepping 103)).frames.at 5).samples.at 0).code = 9 := by decide +kernel

/-- A calibration takes 150 µs (R119). -/
def calibrating (now : Time) : State := { idle with timeBase := now, engine := { idle.engine with state := .calibrating } }

theorem test_calibration_not_over_at_149 :
    (after (.calibrationComplete .pass) (calibrating 149)).engine.state = .calibrating := by decide +kernel

theorem test_calibration_failure :
    (after (.calibrationComplete .fail) (calibrating 150)).engine.failures = 1 := by decide +kernel

/-- EXC settling toward LOW until 40. -/
def rising : State :=
  { idle with
    timeBase := 40
    exc := { idle.exc with standing := ⟨.low, .off, .off⟩, output := .low, target := some .low, expiry := 40 } }

theorem test_settle_expiry : (after .settleExpiry rising).exc.settled = .low := by decide +kernel

theorem test_settle_expiry_early :
    (after .settleExpiry { rising with timeBase := 39 }).exc.settled = .off := by decide +kernel

/-- Every busy job of `world` with its deadline at 50 and late policy DROP. -/
def dueWorld (late : LatePolicy) : State :=
  { world with
    timeBase := 50, jobs := world.jobs.map fun r => { r with deadlineTimer := some 50, late := late } }

theorem test_deadline_drop_running :
    ((after (.deadlineExpiry 5) (dueWorld .drop)).job 5).stopReason = some .late := by decide +kernel

theorem test_deadline_keep_running :
    ((after (.deadlineExpiry 5) (dueWorld .keep)).job 5).deadlineMissed = true := by decide +kernel

/-- G1 HELD by H0 with a lease of 1 ms that ends at 1,000. -/
def held (now : Time) : State :=
  { idle with
    timeBase := now
    groups := idle.groups.put 1 ⟨.held, .h0, 1, 1000, Vector.replicate 24 false⟩ }

theorem test_lease_expiry :
    ((after (.leaseExpiry 1) (held 1000)).groups.at 1).state = .free := by decide +kernel

theorem test_lease_expiry_early :
    ((after (.leaseExpiry 1) (held 999)).groups.at 1).state = .held := by decide +kernel

/-! ### Witnesses: states and operands that meet the hypotheses of the statements

Each theorem is named after its statement and lists, clause by clause, hypotheses that hold together. -/

/-- Ports with nothing in hand, and one with a command of its own host. -/
theorem hands_sound {s : State} (h : ∀ k : HostId, (s.port k).inHand = none ∨ (s.port k).inHand = some (.nop k [])) :
    s.HandsSound := by
  intro k i hi
  rcases h k with hk | hk <;> rw [hk] at hi
  · cases hi
  · cases hi; rfl

theorem witness_StepTakesTheFrontCommand_hands :
    (stepping 103).HandsSound ∧ (calibrating 150).HandsSound ∧ (offer idle .h0 (.nop .h0 [])).HandsSound :=
  ⟨hands_sound fun k => by cases k <;> decide, hands_sound fun k => by cases k <;> decide,
    hands_sound fun k => by cases k <;> decide⟩

theorem witness_StepTakesTheFrontCommand :
    (State.reset.pending = [] ∧ State.reset.inReset = true) ∧
    (idle.pending = [] ∧ idle.inReset = false ∧ idle.mustArrive = [] ∧ idle.mayArrive = [] ∧
      idle.decisionDue = false) ∧
    ({ idle with decisionDue := true } : State).inReset = false ∧
    ((stepping 103).engine.step = some ⟨5, 0, 0, .x1, 0, 100⟩ ∧
      ((stepping 103).timeBase - (100 + BitVec.ofNat 32 (3 + 0))).toNat < 2 ^ 31) ∧
    ((calibrating 150).engine.state = .calibrating ∧
      ((calibrating 150).timeBase - ((calibrating 150).engine.calStart + 150)).toNat < 2 ^ 31) ∧
    (rising.exc.target ≠ none ∧ (rising.timeBase - rising.exc.expiry).toNat < 2 ^ 31) ∧
    (((dueWorld .keep).job 3).deadlineTimer = some 50 ∧ ((dueWorld .keep).timeBase - 50).toNat < 2 ^ 31) ∧
    ((periodWorld.job 3).periodTimer = some 120 ∧ (periodWorld.timeBase - 120).toNat < 2 ^ 31) ∧
    (((held 1000).groups.at 1).state = .held ∧
      ((held 1000).timeBase - ((held 1000).groups.at 1).expiry).toNat < 2 ^ 31) ∧
    (let t := offer { idle with timeBase := 2 } .h0 (.nop .h0 [])
     2 ≤ (t.timeBase - (t.port .h0).endedAt).toNat ∧ (t.port .h0).inHand = some (.nop .h0 [])) ∧
    (let t := after (.nop .h0 []) (offer { idle with timeBase := 2 } .h0 (.nop .h0 []))
     2 ≤ (t.timeBase - (t.port .h0).endedAt).toNat ∧ (t.port .h0).inHand = none ∧
      (t.port .h0).prepared ≠ none) := by decide +kernel

theorem witness_ResetAssertionReturnsEveryBlock :
    State.reset.inReset = true ∧ Instr.stepComplete 0 ≠ .resetNAssert ∧
    ∀ alloc levels csLow, Instr.stepComplete 0 ≠ .resetNRelease alloc levels csLow :=
  ⟨rfl, nofun, nofun⟩

theorem witness_ReleaseStartsThePart : State.reset.inReset = true ∧ idle.inReset = false := ⟨rfl, rfl⟩

/-- H0's port waits with a response in preparation. -/
def waiting : State :=
  idle.setPort .h0 { idle.port .h0 with readiness := .waiting, slot := none, prepared := some ⟨.ok, 1, []⟩ }

/-- H0's port shifts a frame, with this outgoing kind. -/
def shifting (k : OutgoingKind) : State := idle.setPort .h0 { idle.port .h0 with transaction := .shifting, outgoing := k }

theorem witness_TransactionBeginFixesTheImage :
    State.reset.inReset = true ∧ ((shifting .slot).port .h0).transaction ≠ .idle ∧
    (idle.inReset = false ∧ (idle.port .h0).transaction = .idle ∧ (idle.port .h0).readiness = .ready ∧
      (idle.port .h0).slot = some ⟨.startup, 0, []⟩) ∧
    ((waiting.port .h0).transaction = .idle ∧ (waiting.port .h0).readiness = .waiting) := by decide +kernel

theorem witness_ResponseImageIsTheResponseFrame :
    ((Response.mk .ok 1 (List.replicate 60 0)).payload.length ≤ 60 ∧ (Response.mk .ok 1 []).payload.length ≤ 60) ∧
    (let p := (after (.transactionBegin .h0) idle).port .h0
     p.transaction = .shifting ∧ p.outBit = 0 ∧ p.image.length = 64) ∧
    ((List.replicate 511 true).length < 512 ∧ 512 ≤ (List.replicate 512 true).length) ∧
    (idle.port .h0).transaction ≠ .shifting ∧ State.reset.inReset = true ∧ idle.inReset = false := by decide +kernel

theorem witness_FaultyTransactionsAreDiscarded :
    (((shifting .slot).port .h0).transaction = .shifting ∧ ((shifting .slot).port .h0).Fresh ∧
      ((levelsOf nopFrame).take 511).length / 8 < 64) ∧
    (((shifting .notReady).port .h0).transaction = .shifting ∧ ((shifting .notReady).port .h0).Fresh ∧
      64 ≤ (levelsOf nopFrame).length / 8 ∧ ((shifting .notReady).port .h0).outgoing = .notReady) ∧
    ((idle.setPort .h0 { idle.port .h0 with transaction := .lockedOut }).port .h0).transaction = .lockedOut ∧
    (idle.port .h0).transaction = .idle := by
  unfold Port.Fresh; decide +kernel

/-- The frames of the four outcomes of an examination, as levels of SDI: length 61, a wrong CRC, the command code 0, and a
NOP of 64 bytes with 3 bits after them. -/
def examined : List (List Bool) :=
  [levelsOf ([1, 1, 61] ++ List.replicate 61 0), levelsOf ([1, 1, 0, 0x7F] ++ List.replicate 60 0),
    levelsOf ([0, 1, 0] ++ crc8 [0, 1, 0] :: List.replicate 60 0), levelsOf nopFrame ++ [true, false, true]]

/-- What is received of the `k`th of them. -/
def receivedFrame (k : Nat) : List Byte := (sampledBytes (examined.getD k [])).take 64

theorem witness_CompleteTransactionIsExamined :
    ((shifting .slot).inReset = false ∧ ((shifting .slot).port .h0).transaction = .shifting ∧
      ((shifting .slot).port .h0).Fresh ∧ ((shifting .slot).port .h0).outgoing = .slot ∧
      ∀ sdi ∈ examined, 512 ≤ sdi.length) ∧
    60 < ((receivedFrame 0).getD 2 0).toNat ∧
    (((receivedFrame 1).getD 2 0).toNat = 0 ∧ crc8 ((receivedFrame 1).take 3) ≠ (receivedFrame 1).getD 3 0) ∧
    (crc8 ((receivedFrame 2).take 3) = (receivedFrame 2).getD 3 0 ∧
      commandOf .h0 ((receivedFrame 2).getD 0 0) [] = none) ∧
    (receivedFrame 3 = nopFrame ∧ crc8 (nopFrame.take 3) = nopFrame.getD 3 0 ∧
      commandOf .h0 1 [] = some (.nop .h0 [])) := by
  unfold Port.Fresh; decide +kernel

theorem witness_ResponseReadyPlacesTheResponse :
    (waiting.port .h0).prepared = some ⟨.ok, 1, []⟩ ∧
    (idle.port .h0).prepared = none := by decide +kernel

theorem witness_CommandFramesRoundTrip :
    ((Instr.nop .h1 []).wf = true ∧ (Instr.nop .h1 []).caller = some .h1 ∧
      (Instr.nop .h1 []).toFrame 1 0 = some nopFrame) ∧
    (nopFrame.length = 64 ∧ checkFrame .h1 nopFrame = .command (.nop .h1 [])) := by decide +kernel

/-- A part with nothing defined agrees with itself. -/
theorem empty_scheduled {s : State} (hj : s.jobs = Vector.replicate 24 Job.free)
    (hs : s.seqs = Vector.replicate 32 Seq.free) (hf : s.freeSteps = 256) (hq : s.queue = [])
    (he : s.engine.step = none) (hl : s.engine.settlingJob = none)
    (hc : s.engine.state ≠ .settling ∧ s.engine.state ≠ .converting) : s.Scheduled := by
  have job (j : JobId) : s.job j = Job.free := by simp [State.job, hj]
  have seq (k : SeqId) : s.seqs.at k = Seq.free := by simp [hs]
  have none_names (k : SeqId) : s.namers k = 0 := by simp [State.namers, job, Job.free]
  refine ⟨fun j => ?_, ⟨fun k => ?_, ?_⟩, ⟨by simp [hq], fun j => ?_⟩, ⟨fun j => ?_, fun j => ?_, ?_, ?_⟩, fun j h => ?_⟩
  · rw [job]; simp [Job.Sound, Job.free, Job.periodRuns, JobState.busy, JobState.dispatched]
  · simp [State.SeqSound, seq, none_names, Seq.free]
  · simp [State.PoolSound, seq, hf, Seq.free]
  · simp [hq, job, Job.free, JobState.queued]
  · simp [job, Job.free, hl]
  · simp [job, Job.free, he]
  · simp [hl, hc.1]
  · simp [he, hc.2]
  · simp [job, Job.free] at h

theorem idle_scheduled : idle.Scheduled := empty_scheduled rfl rfl rfl rfl rfl rfl ⟨by decide, by decide⟩

/-- The part in its start-up calibration, with H0's HOST_RESET in hand. -/
def tearing : State := offer (calibrating 0) .h0 (.hostReset .h0 [])

theorem witness_EveryCommandIsAnsweredOnItsOwnPort :
    ((offer idle .h0 (.nop .h0 [])).SequencesSound ∧ (Instr.nop .h0 []).caller = some .h0 ∧
      (offer idle .h0 (.nop .h0 [])).Offered .h0 (.nop .h0 [])) ∧
    ((Instr.nop .h0 []).caller = some .h0 ∧ ¬ idle.Offered .h0 (.nop .h0 [])) :=
  ⟨⟨idle_scheduled.2.1, rfl, offer_offered _ _ rfl⟩, rfl, fun h => nomatch h.2⟩

theorem witness_RefusedCommandsHaveNoEffect :
    (Instr.nop .h0 [0]).caller = some .h0 ∧ (offer idle .h0 (.nop .h0 [0])).Offered .h0 (.nop .h0 [0]) ∧
    exec (.nop .h0 [0]) (offer idle .h0 (.nop .h0 [0])) =
      .next (after (.nop .h0 [0]) (offer idle .h0 (.nop .h0 [0]))) ∧
    reply (.nop .h0 [0]) idle = some ⟨.badArgument, 7, []⟩ :=
  ⟨rfl, offer_offered _ _ rfl, rfl, test_nop_with_argument⟩

theorem witness_WrongArgumentLengthIsRefused :
    (offer idle .h0 (.nop .h0 [0])).Offered .h0 (.nop .h0 [0]) ∧
    (Instr.nop .h0 [0]).argBytes.length ≠ expectedLength (.nop .h0 [0]) := ⟨offer_offered _ _ rfl, by decide⟩

theorem witness_NopIsAnsweredOk : (offer idle .h0 (.nop .h0 [])).Offered .h0 (.nop .h0 []) := offer_offered _ _ rfl

theorem witness_StatusReportsOneMoment : (offer idle .h0 (.status .h0 [])).Offered .h0 (.status .h0 []) :=
  offer_offered _ _ rfl

/-- The arguments of a definition of one step. -/
def newSeq (t : SeqTarget) : SeqArgs := ⟨t, .priv, .off, [⟨1, .x1, 0, none⟩]⟩

theorem witness_DefineSeqWritesTheRecord :
    (∀ t, (offer world .h0 (.defineSeq .h0 (newSeq t).bytes)).Offered .h0 (.defineSeq .h0 (newSeq t).bytes)) ∧
    ((newSeq .anyFree).target = .anyFree ∧ (world.seqs.at 2).defined = false ∧
      (∀ m : SeqId, m < 2 → (world.seqs.at m).defined = true) ∧ 1 ≤ world.freeSteps) ∧
    ((newSeq (.index 31)).target = .index 31 ∧ (world.seqs.at 31).defined = false) ∧
    (((world.setSeq 1 { oneStep with refCount := 0 }).seqs.at 1).owner = some .h0 ∧
      ((world.setSeq 1 { oneStep with refCount := 0 }).seqs.at 1).refCount = 0) :=
  ⟨fun _ => offer_offered _ _ rfl, by decide +kernel⟩

/-- Every sequence record DEFINED and every job record taken. -/
def crowded : State :=
  { world with seqs := Vector.replicate 32 oneStep, jobs := Vector.replicate 24 (jobIn .idle) }

theorem witness_DefineSeqRefusals :
    (∀ args, (offer world .h0 (.defineSeq .h0 args)).Offered .h0 (.defineSeq .h0 args)) ∧
    (([32, 0, 0, 1, 0, 0xF0] : List Byte).getD 0 0).toNat = 32 ∧
    (∀ k : SeqId, (crowded.seqs.at k).defined = true) ∧
    ((world.seqs.at 0).defined = true ∧ (world.seqs.at 0).owner ≠ some .h1) ∧
    ((world.seqs.at 0).owner = some .h0 ∧ 0 < (world.seqs.at 0).refCount) ∧
    ((world.seqs.at 31).defined = false ∧
      ({ world with freeSteps := 0 } : State).freeSteps + (world.seqs.at 31).steps.length < 1) :=
  ⟨fun _ => offer_offered _ _ rfl, by decide +kernel⟩

theorem witness_DeleteSeqFreesTheRecord :
    (∀ b, (offer world .h0 (.deleteSeq .h0 [b])).Offered .h0 (.deleteSeq .h0 [b])) ∧
    32 ≤ (32 : Byte).toNat ∧ (world.seqs.at 31).defined = false ∧
    ((world.seqs.at 0).defined = true ∧ (world.seqs.at 0).owner ≠ some .h1) ∧
    ((world.seqs.at 1).owner = some .h0 ∧ 0 < (world.seqs.at 1).refCount) ∧
    ((world.setSeq 1 { oneStep with refCount := 0 }).seqs.at 1).refCount = 0 :=
  ⟨fun _ => offer_offered _ _ rfl, by decide +kernel⟩

theorem witness_ReadSeqReportsTheRecord :
    (∀ h b, (offer world h (.readSeq h [b])).Offered h (.readSeq h [b])) ∧
    32 ≤ (32 : Byte).toNat ∧ (world.seqs.at 31).defined = false ∧
    ((world.seqs.at 1).defined = true ∧ (world.seqs.at 1).owner ≠ some .h1 ∧ (world.seqs.at 1).scope = .priv) ∧
    ((world.seqs.at 0).defined = true ∧ (world.seqs.at 0).scope = .shared) :=
  ⟨fun h _ => offer_offered h _ rfl, by decide +kernel⟩

/-- The arguments of a PERIOD job with COUNT 255 and the longest period. -/
def newPeriodic : JobArgs :=
  ⟨0, .urgent, 3, .period, some 1048575, .drop, .count 255, .restart, some 65535, .drop, .reclaim⟩

theorem witness_CreateJobTakesTheLowestFreeRecord :
    (∀ h, (offer world h (.createJob h newPeriodic.bytes)).Offered h (.createJob h newPeriodic.bytes)) ∧
    newPeriodic.InRange ∧ (world.seqs.at 0).defined = true ∧ (world.seqs.at 0).owner = some .h0 ∧
    ((world.seqs.at 0).owner ≠ none ∧ (world.seqs.at 0).scope = .shared) ∧ (world.job 0).state = .free :=
  ⟨fun h => offer_offered h _ rfl, by simp [JobArgs.InRange, newPeriodic], by decide +kernel⟩

theorem witness_CreateJobRefusals :
    (∀ h, (offer world h (.createJob h newPeriodic.bytes)).Offered h (.createJob h newPeriodic.bytes)) ∧
    newPeriodic.bytes.length = 15 ∧ (newPeriodic.bytes.getD 0 0).toNat = 0 ∧
    ((world.seqs.at 1).owner ≠ some .h1 ∧ (world.seqs.at 1).scope = .priv) ∧
    (∀ j : JobId, (crowded.job j).state ≠ .free) :=
  ⟨fun h => offer_offered h _ rfl, by decide +kernel⟩

theorem witness_JobCommandChecks :
    (∀ h b, (offer world h (.armJob h [b])).Offered h (.armJob h [b])) ∧ 24 ≤ (24 : Byte).toNat ∧
    (world.job 23).state = .free ∧ ((world.job 9).state = .stopping ∧ (world.job 9).stopReason = some .teardown) ∧
    ((world.job 1).state ≠ .free ∧ (world.job 1).owner ≠ .h1) :=
  ⟨fun h _ => offer_offered h _ rfl, by decide +kernel⟩

/-- Jobs 1 to 8 of `world` take H0's commands. -/
theorem world_commandable : ∀ j : JobId, 1 ≤ j.val → j.val ≤ 8 → world.Commandable .h0 j := by
  unfold State.Commandable; decide +kernel

/-- The states of `world`, in which every clause of the job commands has a job. -/
theorem world_states :
    (world.job 1).state = .idle ∧ (world.job 2).state = .armed ∧ (world.job 3).state = .pending ∧
    (world.job 4).state = .settling ∧ (world.job 5).state = .running ∧ (world.job 6).state = .preempted ∧
    (world.job 7).state = .stopping ∧ (world.job 8).state = .done := by decide +kernel

theorem witness_ArmJobArms :
    (∀ b, (offer world .h0 (.armJob .h0 [b])).Offered .h0 (.armJob .h0 [b])) ∧ world.Commandable .h0 1 ∧
    (world.job 1).state = .idle :=
  ⟨fun _ => offer_offered _ _ rfl, world_commandable 1 (by decide) (by decide), world_states.1⟩

theorem witness_DisarmJobByState :
    (∀ b, (offer world .h0 (.disarmJob .h0 [b])).Offered .h0 (.disarmJob .h0 [b])) ∧ world.Commandable .h0 3 ∧
    (world.job 3).state = .pending :=
  ⟨fun _ => offer_offered _ _ rfl, world_commandable 3 (by decide) (by decide), world_states.2.2.1⟩

theorem witness_StartJobPresentsATrigger :
    (∀ b, (offer world .h0 (.startJob .h0 [b])).Offered .h0 (.startJob .h0 [b])) ∧ world.Commandable .h0 2 ∧
    (world.job 2).state = .armed ∧ (∀ d, (world.job 2).deadline = some d → 1 ≤ d) ∧
    (world.job 7).state.busy = true := by
  refine ⟨fun _ => offer_offered _ _ rfl, world_commandable 2 (by decide) (by decide), world_states.2.1,
    ?_, by decide +kernel⟩
  intro d hd
  have : (world.job 2).deadline = some 50 := by decide +kernel
  rw [this] at hd; cases hd; decide

/-- Job 6 is PREEMPTED while the converter is in FAULT. -/
def faulty : State := { world with engine := { world.engine with state := .fault, failures := 3 } }

theorem witness_AbortJobByState :
    (∀ s b, s.inReset = false → (offer s .h0 (.abortJob .h0 [b])).Offered .h0 (.abortJob .h0 [b])) ∧
    (∀ j : JobId, 1 ≤ j.val → j.val ≤ 8 → world.Commandable .h0 j) ∧
    ((world.job 1).state = .idle ∧ (world.job 3).state = .pending ∧ (world.job 5).state = .running ∧
      (world.job 7).state = .stopping) ∧
    ((settlingAlone.job 4).fillFrame = some 4 ∧ (settlingAlone.job 4).state = .settling) ∧
    ((({ settlingAlone with queue := [6, 3] } : State).job 4).state = .settling ∧
      (({ settlingAlone with queue := [6, 3] } : State).job 4).fillFrame = some 4) ∧
    (((stepping 100).job 6).fillFrame = some 6 ∧ ((stepping 100).job 6).state = .preempted) ∧
    ((faulty.job 6).fillFrame = some 6 ∧ (faulty.job 6).state = .preempted ∧ faulty.engine.state = .fault) :=
  ⟨fun _ _ h => offer_offered _ _ h, world_commandable, by decide +kernel⟩

theorem witness_DeleteJobFreesTheRecord :
    (∀ b, (offer world .h0 (.deleteJob .h0 [b])).Offered .h0 (.deleteJob .h0 [b])) ∧ world.Commandable .h0 8 ∧
    (world.job 8).state = .done ∧ (world.job 3).state ≠ .idle ∧ (world.job 3).state ≠ .done :=
  ⟨fun _ => offer_offered _ _ rfl, world_commandable 8 (by decide) (by decide), by decide +kernel⟩

theorem witness_JobStatusReportsTheRecord :
    (offer world .h0 (.jobStatus .h0 [6])).Offered .h0 (.jobStatus .h0 [6]) ∧ world.Commandable .h0 6 ∧
    (world.job 6).fillFrame = some 6 ∧ (world.job 1).fillFrame = none ∧
    ((after (.startJob .h0 [3]) (offer world .h0 (.startJob .h0 [3]))).job 3).latch = some 0 :=
  ⟨offer_offered _ _ rfl, world_commandable 6 (by decide) (by decide), by decide +kernel⟩

theorem witness_LineEdgesAreRecognised :
    world.inReset = false ∧ world.levels.trig.get .h0 = false ∧ world.levels.xt.at 3 = false ∧
    (after (.trigEdge .h0) world).levels.trig.get .h0 = true ∧ (after (.xtEdge 3) world).levels.xt.at 3 = true := by
  decide +kernel

/-- A presentation of this stamp waits for a job. -/
def presented (j : JobId) (stamp : Time) : State :=
  { world with timeBase := 50, waiting := [⟨.line (.xt 0), j, .xt 0, stamp, none⟩] }

/-- Jobs 2 and 10, both ARMED, each with a presentation of one edge at 1 that waits, and the converter free. -/
def edgeWorld : State :=
  { lineWorld with timeBase := 60, waiting := [⟨.line (.xt 1), 2, .xt 1, 1, some ⟨1, 1⟩⟩,
      ⟨.line (.xt 1), 10, .xt 1, 1, some ⟨1, 1⟩⟩] }

theorem witness_PresentedTriggersAreTaken :
    world.waiting.find? (fun p => p.origin == .window) = none ∧
    ((presented 1 1).waiting.find? (fun p => p.origin == .line (.xt 0)) = some ⟨.line (.xt 0), 1, .xt 0, 1, none⟩ ∧
      ((presented 1 1).job 1).state = .idle) ∧
    (((presented 2 1).job 2).state = .armed ∧ (2 : JobId) ∉ (presented 2 1).queue ∧
      ((presented 2 1).waiting.erase ⟨.line (.xt 0), 2, .xt 0, 1, none⟩) = [] ∧
      ((presented 2 1).job 2).deadline = some 50 ∧ ((presented 2 1).timeBase - 1).toNat < 50) ∧
    (((presented 2 0).job 2).state = .armed ∧ ((presented 2 0).job 2).deadline = some 50 ∧
      50 ≤ ((presented 2 0).timeBase - 0).toNat) ∧
    (edgeWorld.waiting.find? (fun p => p.origin == .line (.xt 1)) =
        some ⟨.line (.xt 1), 2, .xt 1, 1, some ⟨1, 1⟩⟩ ∧ (edgeWorld.job 2).state = .armed ∧
      (2 : JobId) ∉ edgeWorld.queue ∧
      (∃ q ∈ edgeWorld.waiting.erase ⟨.line (.xt 1), 2, .xt 1, 1, some ⟨1, 1⟩⟩,
        q.origin = .line (.xt 1) ∧ q.stamp = 1) ∧ edgeWorld.engine.state = .idle) ∧
    (let t := { presented 1 1 with decisionDue := true }
     t.decisionDue = true ∧ t.waiting.erase ⟨.line (.xt 0), 1, .xt 0, 1, none⟩ = []) ∧
    (((presented 5 1).job 5).state.busy = true ∧ ((presented 5 1).job 5).state = .running) := by decide +kernel

theorem witness_PeriodExpiryKeepsTheGrid :
    (world.job 1).periodTimer = none ∧
    ((periodWorld.job 3).periodTimer = some 120 ∧ (periodWorld.job 3).period = some 100 ∧
      (periodWorld.timeBase - 120).toNat < 2 ^ 31 ∧ (periodWorld.job 3).state.busy = true) ∧
    2 ^ 31 ≤ (({ periodWorld with timeBase := 119 } : State).timeBase - 120).toNat ∧
    (let t := periodWorld.setJob 2 { periodWorld.job 3 with state := .armed }
     (t.job 2).state = .armed ∧ (2 : JobId) ∉ t.queue ∧ (t.job 2).periodTimer = some 120 ∧
      (t.job 2).period = some 100) := by decide +kernel

theorem witness_QueueEntriesAreOrdered : (2 : JobId) ∉ world.queue := by decide

theorem witness_FreeDecisionCalibratesOrWaits :
    (idle.engine.state = .idle ∧ idle.engine.counter < idle.engine.effective ∧ idle.engine.requesters.h0 = false ∧
      idle.engine.requesters.h1 = false ∧ idle.engine.requesters.h2 = false ∧ idle.queue = []) ∧
    ({ idle.engine with counter := 4096 } : Engine).effective ≤ 4096 ∧
    ({ idle.engine with state := .fault, requesters := ⟨true, false, false⟩ } : Engine).requesters.h0 = true ∧
    ((calibrating 0).engine.state ≠ .idle ∧ (calibrating 0).engine.state ≠ .fault) := by decide +kernel

/-- Job 3 is the first eligible entry, at the head of the queue. -/
def selectable : State := { world with queue := [3, 6] }

/-- H0 at its allowance with frame 9 undelivered, and job 3 under RECLAIM. -/
def reclaiming : State :=
  { selectable with
    jobs := selectable.jobs.put 3 { jobIn .pending with overflow := .reclaim }
    inUse := ⟨16, 0, 0⟩, delivery := ⟨[9], [], []⟩ }

theorem witness_SelectedRunStarts :
    (selectable.FreeForJobs ∧ selectable.FirstEligible [] 3 [6] ∧ (selectable.job 3).state = .pending ∧
      (selectable.seqOf 3).steps.head? = some ⟨0, .x1, 0, some 2⟩ ∧
      selectable.inUse.get .h0 < selectable.allowance.get .h0 ∧ selectable.pool = 0 :: selectable.pool.tail) ∧
    (reclaiming.FreeForJobs ∧ reclaiming.FirstEligible [] 3 [6] ∧
      reclaiming.allowance.get .h0 ≤ reclaiming.inUse.get .h0 ∧ (reclaiming.job 3).overflow = .reclaim ∧
      reclaiming.delivery.get .h0 = [9]) := by
  unfold State.FreeForJobs State.FirstEligible; decide +kernel

/-- H0 at its allowance with nothing to reclaim, and job 3 alone in the queue. -/
def refusing (m : RepeatMode) : State :=
  { world with
    jobs := world.jobs.put 3 { jobIn .pending with repeatMode := m, runsRemaining := 1 }
    queue := [3], inUse := ⟨16, 0, 0⟩ }

/-- H0 at its allowance; before job 3, which has a latch, an entry that a hold keeps back, and job 6 behind it. -/
def refusingAmong : State :=
  { world with
    jobs := (world.jobs.put 3 { jobIn .pending with repeatMode := .continuous, latch := some 1 }).put 10
      { jobIn .pending with owner := .h2, seq := 1 }
    seqs := world.seqs.put 1 { oneStep with owner := some .h2 }
    groups := world.groups.put 0 ⟨.held, .h0, 1, 1000, Vector.replicate 24 false⟩
    queue := [10, 3, 6], inUse := ⟨16, 0, 0⟩ }

theorem witness_RefusedFrameEndsTheRun :
    ((refusing .oneShot).FreeForJobs ∧ (refusing .oneShot).queue = [3] ∧ (refusing .oneShot).heldBack 3 = false ∧
      ((refusing .oneShot).job 3).state = .pending ∧ ((refusing .oneShot).job 3).disarmPending = false ∧
      ((refusing .oneShot).job 3).latch = none ∧
      (refusing .oneShot).allowance.get .h0 ≤ (refusing .oneShot).inUse.get .h0 ∧
      ((refusing .oneShot).job 3).overflow = .refuse) ∧
    ((refusing (.count 2)).job 3).runsRemaining - 1 = 0 ∧
    ((refusing .continuous).job 3).repeatMode = .continuous ∧
    (∀ k ∈ ({ refusingAmong with queue := [10] } : State).queue, refusingAmong.heldBack k = true) ∧
    (refusingAmong.FirstEligible [10] 3 [6] ∧ (refusingAmong.job 3).state = .pending ∧
      (refusingAmong.job 3).latch = some 1 ∧
      refusingAmong.allowance.get .h0 ≤ refusingAmong.inUse.get .h0 ∧ (refusingAmong.job 3).overflow = .refuse) := by
  unfold State.FreeForJobs State.FirstEligible; decide +kernel

theorem witness_ReselectedRunContinues :
    world.FreeForJobs ∧ world.FirstEligible [] 6 [3] ∧ (world.job 6).state = .preempted ∧
    (world.job 6).fillFrame = some 6 ∧ (world.job 6).resume = .resume ∧
    (world.seqOf 6).steps[(world.job 6).nextStep]? = some ⟨0, .x1, 0, some 2⟩ := by
  unfold State.FreeForJobs State.FirstEligible; decide +kernel

theorem witness_ArrivalsDecideOrDisplace :
    idle.engine.state = .idle ∧ ((calibrating 0).engine.state ≠ .idle ∧ (calibrating 0).engine.state ≠ .fault) ∧
    (settlingAlone.engine.state = .settling ∧ settlingAlone.engine.settlingJob = some 4 ∧
      (settlingAlone.job 4).cls = .routine) ∧
    ((settlingAlone.setJob 4 { jobIn .settling with cls := .urgent }).job 4).cls = .urgent := by decide +kernel

/-- A record at a run end, with a latch taken at 1. -/
def ending (late : LatePolicy) : Job := { jobIn .running with repeatMode := .continuous, latch := some 1, late := late }

theorem witness_CountedRunEndFollowsTheMode :
    (world.job 5).endState ≠ .armed ∧
    ((ending .keep).endState = .armed ∧ (ending .keep).latch = some 1 ∧ ¬ (ending .keep).PastDeadline 1 50) ∧
    ((ending .keep).PastDeadline 1 51 ∧ (ending .keep).late = .keep ∧ (5 : JobId) ∉ world.queue) ∧
    ((ending .drop).PastDeadline 1 51 ∧ (ending .drop).late = .drop) := by
  refine ⟨by decide +kernel, ⟨by decide, rfl, ?_⟩, ⟨⟨50, rfl, by decide⟩, rfl, by decide⟩, ⟨50, rfl, by decide⟩, rfl⟩
  rintro ⟨d, hd, hle⟩
  have hd : d = 50 := by simpa [ending, jobIn] using hd.symm
  subst hd
  exact absurd hle (by decide)

/-- H2 waits for group G0, on which job 5 of H0 stands alone. -/
def waitedFor : State :=
  { stepping 103 with
    groups := idle.groups.put 0 ⟨.pending, .h2, 1, 0, (Vector.replicate 24 false).set 5 true⟩ }

theorem witness_LeavingGroupsGrantsHolds :
    (waitedFor.job 5).cls = .routine ∧
    ((waitedFor.seqOf 5).touches 0 = true ∧ (waitedFor.groups.at 0).occupants.at 5 = true ∧
      (waitedFor.groups.at 0).state = .pending ∧
      ∀ k : JobId, k ≠ 5 → (waitedFor.groups.at 0).occupants.at k = true → (waitedFor.job k).owner = .h2) := by
  decide +kernel

/-- 4,159 steps are counted, so that the step in progress makes calibration overdue. -/
def nearlyOverdue : State := { stepping 103 with engine := { (stepping 103).engine with counter := 4159 } }

theorem witness_StepCompletionAtABoundary :
    idle.engine.step = none ∧ 2 ^ 31 ≤ ((stepping 102).timeBase - (100 + BitVec.ofNat 32 3)).toNat ∧
    ((stepping 103).StepEnds ⟨5, 0, 0, .x1, 0, 100⟩ ∧ ((stepping 103).job 5).state = .running ∧
      ((stepping 103).job 5).fillFrame = some 5 ∧ (5 : JobId) ∉ (stepping 103).queue ∧
      ((stepping 103).job 5).nextStep = 0 ∧ ((stepping 103).seqOf 5).steps[0]? = some ⟨0, .x1, 0, some 2⟩ ∧
      ((stepping 103).seqOf 5).steps[1]? = some ⟨4, .x2, 1, none⟩ ∧ ((stepping 103).job 5).cls = .routine) ∧
    (∃ k ∈ ((stepping 103).setJob 3 { jobIn .pending with cls := .urgent }).queue,
      (((stepping 103).setJob 3 { jobIn .pending with cls := .urgent }).job k).cls = .urgent) ∧
    (nearlyOverdue.StepEnds ⟨5, 0, 0, .x1, 0, 100⟩ ∧
      nearlyOverdue.engine.effective + 64 = min 65599 (nearlyOverdue.engine.counter + 1)) := by
  unfold State.StepEnds; decide +kernel

/-- Job 5 converts its last step. -/
def lastStep : State := (stepping 103).setJob 5 { jobIn .running with fillFrame := some 5, nextStep := 1 }

theorem witness_LastStepCompletesTheRun :
    (lastStep.StepEnds ⟨5, 0, 0, .x1, 0, 100⟩ ∧ (lastStep.job 5).state = .running ∧
      (lastStep.job 5).fillFrame = some 5 ∧ (lastStep.job 5).nextStep = 1 ∧
      (lastStep.seqOf 5).steps[0]? = some ⟨0, .x1, 0, some 2⟩ ∧ (lastStep.seqOf 5).steps.length = 2) ∧
    ¬ ({ lastStep with groups := waitedFor.groups } : State).NoHoldWaitsFor 5 := by
  unfold State.StepEnds State.NoHoldWaitsFor; decide +kernel

/-- Job 7 converts its last step before its exit. -/
def exiting (reason : StopReason) : State :=
  { world with
    timeBase := 103
    jobs := world.jobs.put 7
      { jobIn .stopping with fillFrame := some 7, stopReason := some reason, latch := some 100 }
    engine := { world.engine with state := .converting, step := some ⟨7, 0, 0, .x1, 0, 100⟩ } }

theorem witness_StoppingExitFollowsTheReason :
    ((exiting .abort).StepEnds ⟨7, 0, 0, .x1, 0, 100⟩ ∧ ((exiting .abort).job 7).state = .stopping ∧
      ((exiting .abort).job 7).fillFrame = some 7 ∧ ((exiting .abort).job 7).stopReason = some .abort ∧
      ((exiting .abort).job 7).disarmPending = false ∧ ((exiting .abort).job 7).latch = some 100 ∧
      (7 : JobId) ∉ (exiting .abort).queue) ∧
    (((exiting .abort).setJob 7 { (exiting .abort).job 7 with disarmPending := true, latch := none }).job 7).latch
      = none ∧
    ((exiting .late).job 7).stopReason = some .late ∧ ((exiting .teardown).job 7).stopReason = some .teardown := by
  unfold State.StepEnds; decide +kernel

theorem witness_DeadlineExpiryByState :
    (world.job 3).deadlineTimer = none ∧
    (((dueWorld .keep).job 3).deadlineTimer = some 50 ∧ ((dueWorld .keep).timeBase - 50).toNat < 2 ^ 31 ∧
      ((dueWorld .keep).job 3).state = .pending ∧ ((dueWorld .keep).job 7).state = .stopping ∧
      ((dueWorld .keep).job 2).state = .armed ∧ ((dueWorld .keep).job 3).late = .keep) ∧
    (((dueWorld .drop).job 4).late = .drop ∧ ((dueWorld .drop).job 4).state = .settling ∧
      ((dueWorld .drop).job 4).fillFrame = some 4 ∧ ((dueWorld .drop).job 6).state = .preempted ∧
      ((dueWorld .drop).job 6).fillFrame = some 6 ∧ ((dueWorld .drop).job 5).state = .running ∧
      ((dueWorld .drop).job 3).state = .pending) ∧
    2 ^ 31 ≤ (({ dueWorld .keep with timeBase := 49 } : State).timeBase - 50).toNat := by decide +kernel

/-- Two frames of H0 wait for delivery. -/
def delivered : State := { idle with delivery := ⟨[2, 3], [], []⟩ }

theorem witness_FetchAndFlushReturnFrames :
    ((offer idle .h0 (.fetchFrame .h0 [])).Offered .h0 (.fetchFrame .h0 []) ∧ idle.delivery.get .h0 = []) ∧
    ((offer delivered .h0 (.fetchFrame .h0 [])).Offered .h0 (.fetchFrame .h0 []) ∧
      delivered.delivery.get .h0 = [2, 3]) ∧
    ((offer delivered .h0 (.flushFrames .h0 [])).Offered .h0 (.flushFrames .h0 []) ∧
      delivered.delivery.get .h0 ≠ []) :=
  ⟨⟨offer_offered _ _ rfl, rfl⟩, ⟨offer_offered _ _ rfl, rfl⟩, offer_offered _ _ rfl, by decide⟩

/-- The arguments of SET_WINDOW for window 3 with the widest limits and the action START_JOB 8. -/
def widest : List Byte := [3, 0, 0, 0x0F, 0xFF, 1, 8]

theorem witness_SetWindowLoadsTheWindow :
    (∀ args, (offer world .h0 (.setWindow .h0 args)).Offered .h0 (.setWindow .h0 args)) ∧
    (widest.length = 7 ∧ (widest.getD 5 0).toNat = 1 ∧ numberAt widest 1 2 ≤ numberAt widest 3 2 ∧
      numberAt widest 3 2 ≤ 4095 ∧ (widest.getD 6 0).toNat = (8 : JobId).val) ∧ world.Commandable .h0 8 ∧
    (([4, 0, 0, 0, 0, 0] : List Byte).getD 0 0).toNat = 4 :=
  ⟨fun _ => offer_offered _ _ rfl, by decide, world_commandable 8 (by decide) (by decide), by decide⟩

/-- Window 3 of H0 set with the widest limits; window 2 disabled with limits that are no filler. -/
def windowed : State :=
  (idle.setWindow .h0 3 ⟨true, 0, 4095, .notify, .inside⟩).setWindow .h0 2 ⟨false, 5, 6, .notify, .unknown⟩

theorem witness_ClearWindowDisables :
    (∀ b, (offer windowed .h0 (.clearWindow .h0 [b])).Offered .h0 (.clearWindow .h0 [b])) ∧ 4 ≤ (4 : Byte).toNat ∧
    ((3 : Byte).toNat = (3 : WindowId).val ∧ (windowed.window .h0 3).enabled = true) ∧
    ((windowed.window .h0 2).enabled = false ∧ windowed.WindowSound .h0 2) := by
  refine ⟨fun _ => offer_offered _ _ rfl, by decide, ⟨by decide, by decide⟩, by decide, ?_⟩
  have : windowed.window .h0 2 = ⟨false, 5, 6, .notify, .unknown⟩ := by decide
  rw [State.WindowSound, this]
  simp

/-- Window 2 of H0 names job 2, whose source is WINDOW. -/
def watched : State :=
  { world with
    jobs := world.jobs.put 2 { jobIn .armed with source := .window }
    windows := world.windows.put .h0 ((world.windows.get .h0).put 2 ⟨true, 1000, 3000, .startJob 2, .inside⟩) }

theorem witness_SamplesAreJudgedByTheWindow :
    (world.window (world.job 5).owner 2).enabled = false ∧ (watched.window (watched.job 5).owner 2).enabled = true ∧
    (watched.window .h0 2).action = .startJob 2 ∧ (watched.job 2).source = .window := by decide +kernel

/-- Every group touched by a job of H0 in place, for H1's and H2's holds. -/
def occupied : State :=
  { world with
    groups := (world.groups.put 3 ⟨.free, .h0, 0, 0, (Vector.replicate 24 false).set 5 true⟩).put 1
      ⟨.held, .h0, 1, 1000, Vector.replicate 24 false⟩ }

theorem witness_AcquireHoldTakesAFreeGroup :
    (∀ h b l, (offer occupied h (.acquireHold h [b, l])).Offered h (.acquireHold h [b, l])) ∧ 4 ≤ (4 : Byte).toNat ∧
    (0 : Byte).toNat = (0 : GroupId).val ∧ (255 : Byte) ≠ 0 ∧
    ((occupied.groups.at 1).state ≠ .free ∧ (occupied.groups.at 1).host = .h0 ∧
      (occupied.groups.at 1).host ≠ .h1) ∧
    ((occupied.groups.at 0).state = .free ∧ (allJobs.filter fun j =>
        decide ((occupied.groups.at 0).occupants.at j = true ∧ (occupied.job j).owner ≠ .h1)).length = 0) ∧
    ((occupied.groups.at 3).state = .free ∧ 0 < (allJobs.filter fun j =>
        decide ((occupied.groups.at 3).occupants.at j = true ∧ (occupied.job j).owner ≠ .h1)).length) :=
  ⟨fun h _ _ => offer_offered h _ rfl, by decide +kernel⟩

theorem witness_RenewHoldRestartsTheLease :
    (∀ h b, (offer (held 0) h (.renewHold h [b])).Offered h (.renewHold h [b])) ∧ 4 ≤ (4 : Byte).toNat ∧
    (((held 0).groups.at 1).state = .held ∧ ((held 0).groups.at 1).host = .h0 ∧ ((held 0).groups.at 1).host ≠ .h1) ∧
    ((held 0).groups.at 0).state = .free :=
  ⟨fun h _ => offer_offered h _ rfl, by decide +kernel⟩

theorem witness_HoldsEndByReleaseOrLease :
    (∀ h b, (offer (held 0) h (.releaseHold h [b])).Offered h (.releaseHold h [b])) ∧ 4 ≤ (4 : Byte).toNat ∧
    (((held 0).groups.at 1).state ≠ .free ∧ ((held 0).groups.at 1).host = .h0) ∧
    ((held 0).groups.at 0).state = .free ∧
    (((held 1000).groups.at 1).state = .held ∧
      ((held 1000).timeBase - ((held 1000).groups.at 1).expiry).toNat < 2 ^ 31) ∧
    2 ^ 31 ≤ ((held 999).timeBase - ((held 999).groups.at 1).expiry).toNat :=
  ⟨fun h _ => offer_offered h _ rfl, by decide +kernel⟩

/-- The excitation with these levels and one standing claim of H0. -/
def levels (claim output settled : Level) (target : Option Level) : Excitation :=
  { Excitation.reset with standing := ⟨claim, .off, .off⟩, output := output, settled := settled, target := target }

theorem witness_OutputFollowsTheHighestClaim :
    (State.reset.inReset = true ∧ idle.exc.output = .off ∧ idle.inReset = false ∧ rising.exc.output = .low) ∧
    (levels .low .low .low none).claimed = .low ∧
    Level.rank .off < (levels .high .off .off none).claimed.rank ∧
    (levels .off .high .high none).claimed.rank < Level.rank .high ∧
    ((levels .low .high .mid (some .high)).claimed.rank ≤ Level.rank .mid) ∧
    (Level.rank .off < (levels .low .high .off (some .high)).claimed.rank ∧
      (levels .low .high .off (some .high)).claimed.rank < Level.rank .high) := by decide +kernel

theorem witness_ClaimExcSetsTheStandingClaim :
    (∀ b, (offer idle .h0 (.claimExc .h0 [b])).Offered .h0 (.claimExc .h0 [b])) ∧ 4 ≤ (4 : Byte).toNat ∧
    ((0 : Byte).toNat = Level.off.rank ∧ idle.exc.standing.get .h0 = .off) ∧
    ((3 : Byte).toNat = Level.high.rank ∧ idle.exc.standing.get .h0 ≠ .high) :=
  ⟨fun _ => offer_offered _ _ rfl, by decide +kernel⟩

/-- Job 4 settles toward LOW, which is reached now. -/
def settlingDone : State :=
  { settlingAlone with
    timeBase := 40, exc := { settlingAlone.exc with output := .low, target := some .low, expiry := 40 } }

theorem witness_SettleExpirySettles :
    idle.exc.target = none ∧
    (rising.exc.target = some .low ∧ (rising.timeBase - rising.exc.expiry).toNat < 2 ^ 31 ∧
      rising.engine.state = .idle) ∧
    (settlingDone.exc.target = some .low ∧ settlingDone.engine.state = .settling ∧
      settlingDone.engine.settlingJob = some 4 ∧ (settlingDone.seqOf 4).minimum.rank ≤ Level.low.rank ∧
      (settlingDone.seqOf 4).steps[(settlingDone.job 4).nextStep]? = some ⟨0, .x1, 0, some 2⟩) ∧
    2 ^ 31 ≤ ((39 : Time) - rising.exc.expiry).toNat ∧ (stepping 103).engine.state = .converting := by decide +kernel

theorem witness_CalibrationIsRequested :
    ((offer idle .h0 (.requestCal .h0 [])).Offered .h0 (.requestCal .h0 []) ∧
      idle.engine.requesters.get .h0 = false) ∧
    ({ idle.engine with requesters := ⟨true, false, false⟩ } : Engine).requesters.get .h0 = true ∧
    (∀ a b, (offer idle .h0 (.setCalInterval .h0 [a, b])).Offered .h0 (.setCalInterval .h0 [a, b])) ∧
    (1 ≤ (0 : Byte).toNat * 256 + (255 : Byte).toNat ∧ (0 : Byte).toNat * 256 + (255 : Byte).toNat ≤ 255) ∧
    (256 ≤ (1 : Byte).toNat * 256 + (0 : Byte).toNat ∧
      (idle.engine.requests.put .h0 (some 256)).get .h0 = some 256) :=
  ⟨⟨offer_offered _ _ rfl, rfl⟩, rfl, fun _ _ => offer_offered _ _ rfl, by decide +kernel⟩

theorem witness_CalibrationCompletionByResult :
    ((calibrating 150).inReset = false ∧ (calibrating 150).engine.state = .calibrating ∧
      (calibrating 150).engine.cause = .startup ∧ (calibrating 150).engine.tornDown.get .h0 = false ∧
      ((calibrating 150).timeBase - ((calibrating 150).engine.calStart + 150)).toNat < 2 ^ 31) ∧
    (after (.hostReset .h0 []) tearing).engine.tornDown.get .h0 = true ∧
    2 ^ 31 ≤ ((calibrating 149).timeBase - ((calibrating 149).engine.calStart + 150)).toNat := by decide +kernel

/-- H0's queue is full. -/
def fullQueue : EventQueue := ⟨List.replicate 16 ⟨0, none, none, .converterFault⟩, 255, true⟩

theorem witness_EventRecordsAreQueuedAndRead :
    EventQueue.reset.queue.length < 16 ∧ 16 ≤ fullQueue.queue.length ∧
    (Event.mk 0 none none .converterFault).tableRow = some (0x0E, [0, 0, 0, 0, 0]) ∧
    ((Event.mk 0 (some 23) (some 47) (.limit 3 15 15 0xFFF .above .unknown 1)).body =
      .limit 3 15 15 0xFFF .above .unknown 1 ∧ (15 : Nat) < 16) ∧
    (∀ s b, s.inReset = false → (offer s .h0 (.readEvents .h0 [b])).Offered .h0 (.readEvents .h0 [b])) ∧
    (1 ≤ (7 : Byte).toNat ∧ (7 : Byte).toNat ≤ 7 ∧ (idle.events.get .h0).queue = [] ∧
      (idle.events.get .h0).loss = 0) ∧
    (({ idle with events := idle.events.put .h0 fullQueue } : State).events.get .h0).queue.length = 16 ∧
    (8 : Byte).toNat = 8 :=
  ⟨by decide, by decide, by decide, by decide, fun _ _ h => offer_offered _ _ h, by decide +kernel⟩

/-- Jobs of H0 in PENDING and PREEMPTED, its job 5 in this state, and a PENDING job of H1 that names H0's SHARED sequence;
a frame of H0 waits for delivery and H0 holds G1. -/
def owning (st : JobState) (e : Engine) : State :=
  { idle with
    jobs := (((idle.jobs.put 3 (jobIn .pending)).put 5 { jobIn st with fillFrame := some 5 }).put 6
      { jobIn .preempted with fillFrame := some 6 }).put 10 { jobIn .pending with owner := .h1 }
    seqs := idle.seqs.put 0 { twoSteps with refCount := 4 }
    freeSteps := 254, queue := [6, 3, 10], engine := e, delivery := ⟨[9], [], []⟩, inUse := ⟨3, 0, 0⟩
    groups := (held 0).groups }

/-- The converter CONVERTING and SETTLING for job 5, and in IDLE and FAULT with job 5 DONE. -/
def owners : List State :=
  let e := idle.engine
  [owning .running { e with state := .converting, step := some ⟨5, 0, 0, .x1, 0, 100⟩ },
    owning .settling { e with state := .settling, settlingJob := some 5 },
    owning .done e, owning .done { e with state := .fault, failures := 3 }]

theorem owners_scheduled : ∀ s ∈ owners, s.Scheduled := by
  have jobs : ∀ s ∈ owners, ∀ j : JobId, s.job j ∈ ([Job.free, jobIn .pending, { jobIn .pending with owner := .h1 },
      { jobIn .preempted with fillFrame := some 6 }, { jobIn .running with fillFrame := some 5 },
      { jobIn .settling with fillFrame := some 5 }, { jobIn .done with fillFrame := some 5 }] : List Job) := by
    decide +kernel
  intro s hs
  refine ⟨fun j => ?_, ?_, ?_, ?_, ?_⟩
  · have := jobs s hs j
    simp only [List.mem_cons, List.not_mem_nil, or_false] at this
    rcases this with h | h | h | h | h | h | h <;> rw [h] <;>
      simp [Job.Sound, jobIn, Job.free, Job.periodRuns, JobState.busy, JobState.dispatched]
  · revert s; unfold State.SequencesSound State.SeqSound State.PoolSound; decide +kernel
  · revert s; unfold State.QueueSound; decide +kernel
  · revert s; unfold State.ConverterSound; decide +kernel
  · revert s; unfold State.StepsSound; decide +kernel

/-- Jobs 5 and 6 of H0 stand on G0 and G1; H2 waits for G0 and H0 holds G1. Presentations are fixed for a job that stays
and for one that goes. -/
def waitedOwner : State :=
  let s := owning .settling { idle.engine with state := .settling, settlingJob := some 5 }
  let both := ((Vector.replicate 24 false).set 5 true).set 6 true
  { s with
    groups := (s.groups.put 0 ⟨.pending, .h2, 1, 0, both⟩).put 1 ⟨.held, .h0, 1, 1000, both⟩
    exc := heated { s.exc with transient := (s.exc.transient.put 5 (some .low)).put 6 (some .low) }
    waiting := [⟨.line (.xt 0), 3, .xt 0, 0, none⟩, ⟨.line (.xt 0), 10, .xt 0, 0, none⟩] }

theorem waitedOwner_sound : waitedOwner.Scheduled ∧ waitedOwner.HoldingsSound ∧ waitedOwner.exc.Sound ∧
    ((waitedOwner.groups.at 0).state = .pending ∧ (waitedOwner.groups.at 0).host = .h2 ∧
      (∃ j : JobId, (waitedOwner.job j).owner = .h0 ∧ (waitedOwner.job j).state = .preempted ∧
        (waitedOwner.groups.at 0).occupants.at j = true) ∧
      ∀ j : JobId, (waitedOwner.groups.at 0).occupants.at j = true → (waitedOwner.job j).owner = .h0 ∧
        ((waitedOwner.job j).state = .settling ∨ (waitedOwner.job j).state = .preempted)) := by
  refine ⟨?_, by unfold State.HoldingsSound; decide +kernel, ⟨by decide +kernel, rfl, by decide +kernel⟩, by decide +kernel⟩
  exact owners_scheduled (owning .settling { idle.engine with state := .settling, settlingJob := some 5 })
    (.tail _ (.head _))

theorem witness_HostResetTearsDownTheCaller :
    ((offer waitedOwner .h0 (.hostReset .h0 [])).Offered .h0 (.hostReset .h0 []) ∧
      (offer waitedOwner .h0 (.hostReset .h0 [])).Scheduled ∧
      (offer waitedOwner .h0 (.hostReset .h0 [])).HoldingsSound ∧
      (offer waitedOwner .h0 (.hostReset .h0 [])).exc.Sound) ∧
    (tearing.Offered .h0 (.hostReset .h0 []) ∧ tearing.Scheduled ∧ tearing.engine.state = .calibrating) ∧
    (∀ s ∈ owners, (offer s .h0 (.hostReset .h0 [])).Offered .h0 (.hostReset .h0 []) ∧
      (offer s .h0 (.hostReset .h0 [])).Scheduled) ∧
    owners.map (fun s => s.engine.state) = [.converting, .settling, .idle, .fault] ∧
    (lenient.engine.effective = 8000 ∧ lenient.engine.requests.put .h1 none = PerHost.same none) := by
  refine ⟨⟨offer_offered _ _ rfl, waitedOwner_sound.1, waitedOwner_sound.2.1, waitedOwner_sound.2.2.1⟩,
    ⟨offer_offered _ _ rfl, empty_scheduled rfl rfl rfl rfl rfl rfl ⟨by decide, by decide⟩, rfl⟩,
    fun s hs => ⟨offer_offered _ _ ?_, owners_scheduled s hs⟩, by decide +kernel, by decide +kernel⟩
  revert s; decide +kernel

/-- A part at work that answers a NOP in hand. -/
def answering : State := { (offer idle .h0 (.nop .h0 [])) with pending := [.nop .h0 []] }

theorem witness_StepsKeepEventsAndExcitation :
    answering.EventsSound ∧ answering.exc.Sound ∧ answering.PortsSound ∧
    step answering = .next (after (.nop .h0 []) (offer idle .h0 (.nop .h0 []))) :=
  ⟨fun h => by cases h <;> (unfold EventQueue.Sound; decide +kernel), ⟨by decide +kernel, rfl⟩,
    ⟨fun h => by cases h <;> (unfold Port.Fresh; decide +kernel), hands_sound fun k => by cases k <;> decide,
      fun _ h => by cases h <;> (unfold Port.SlotSound; decide +kernel)⟩, rfl⟩

theorem witness_StepsKeepTheScheduleSound :
    answering.Scheduled ∧ answering.engine.Sound ∧
    step answering = .next (after (.nop .h0 []) (offer idle .h0 (.nop .h0 []))) := by
  refine ⟨idle_scheduled, ⟨rfl, fun h n hn => ?_, by decide, by decide, by decide, by decide, by decide⟩, rfl⟩
  cases h <;> cases hn

theorem witness_StepsKeepTheResourcesSound :
    answering.Scheduled ∧ answering.Resourced ∧ answering.SamplesSound ∧ answering.HoldsSound ∧
    answering.WindowsSound := by
  have noFrame (j : JobId) : (answering.job j).fillFrame = none := by revert j; decide +kernel
  refine ⟨idle_scheduled, ⟨by unfold State.PlacesSound; decide +kernel, ⟨?_, ?_, ?_⟩, ⟨?_, by decide⟩, ?_⟩,
    ⟨?_, ?_, ?_⟩, ?_, ?_⟩
  · decide +kernel
  · intro j f hf; rw [noFrame] at hf; cases hf
  · intro h; cases h <;> decide +kernel
  · intro h; cases h <;> decide +kernel
  · unfold State.HoldingsSound; decide +kernel
  · intro j f hf; rw [noFrame] at hf; cases hf
  · intro h; cases h <;> decide +kernel
  · decide +kernel
  · unfold State.HoldsSound; decide +kernel
  · intro h w
    have : answering.window h w = Window.disabled := by revert w; cases h <;> decide +kernel
    rw [State.WindowSound, this]
    simp [Window.disabled]

theorem witness_ResetIsSound :
    State.reset = State.reset ∧ exec (.resetNRelease 3 low (PerHost.same true)) State.reset =
      .next (after (.resetNRelease 3 low (PerHost.same true)) State.reset) := ⟨rfl, rfl⟩

end Sys2Proof.Tests
end

namespace Sys2Proof.Machine

/-! ## Taking a job command (R2, R173, R180) -/

/-- A command that its port has in hand is taken: the block's reply goes to the port. -/
theorem State.Offered.take {s : State} {h : HostId} {i : Instr} (ho : s.Offered h i) (block : State → Reply) :
    s.take h i block = (block s).state.respond h (block s).status (block s).payload :=
  State.take_of_inHand block ho.1 ho.2

theorem Job.gone_iff (r : Job) :
    r.gone = true ↔ r.state = .free ∨ r.state = .stopping ∧ r.stopReason = some .teardown := by
  simp [Job.gone]

theorem argByte_ofJob (j : JobId) : argByte [BitVec.ofNat 8 j.val] 0 = j.val := by
  simp only [argByte, List.getD_cons_zero, BitVec.toNat_ofNat]
  exact Nat.mod_eq_of_lt (by omega)

theorem State.commandedJob_of_commandable {s : State} {h : HostId} {j : JobId} (hc : s.Commandable h j) :
    s.commandedJob h [BitVec.ofNat 8 j.val] = .ok j := by
  obtain ⟨hfree, hgone, howner⟩ := hc
  refine (s.commandedJob_ok_iff h _ j).2 ⟨argByte_ofJob j, ?_, howner⟩
  rw [Bool.eq_false_iff, ne_eq, Job.gone_iff]
  rintro (hf | hg)
  · exact hfree hf
  · exact hgone hg

/-- A job command that passes the checks of R2 has its own rule's reply. -/
theorem jobCommand_of_commandable {s : State} {h : HostId} {j : JobId} (hc : s.Commandable h j)
    (body : JobId → State → Reply) : jobCommand h [BitVec.ofNat 8 j.val] body s = body j s := by
  unfold jobCommand
  rw [expecting_of_length (n := 1) _ _ rfl, State.commandedJob_of_commandable hc]

/-- A job command that fails a check of R2 is refused with that check's status. -/
theorem jobCommand_of_error {s : State} {h : HostId} {b : Byte} {st : Status}
    (he : s.commandedJob h [b] = .error st) (body : JobId → State → Reply) :
    jobCommand h [b] body s = s.refuse st := by
  unfold jobCommand
  rw [expecting_of_length (n := 1) _ _ rfl, he]

/-- What the first three checks refuse, in their order (R2). -/
theorem State.commandedJob_error (s : State) (h : HostId) (b : Byte) :
    (24 ≤ b.toNat → s.commandedJob h [b] = .error .badArgument) ∧
    (∀ j : JobId, b.toNat = j.val →
      ((s.job j).gone = true → s.commandedJob h [b] = .error .badArgument) ∧
      ((s.job j).gone = false → (s.job j).owner ≠ h → s.commandedJob h [b] = .error .notOwner)) := by
  have harg : argByte [b] 0 = b.toNat := rfl
  refine ⟨fun hb => ?_, fun j hj => ?_⟩
  · rw [State.commandedJob, harg, index?_none hb]
  · have hindex : index? 24 b.toNat = some j := by simp only [hj, index?_some j.isLt]
    refine ⟨fun hg => ?_, fun hg ho => ?_⟩ <;> rw [State.commandedJob, harg, hindex] <;> simp [hg]
    exact ho

/-- Each of the six job commands is taken by way of the checks of R2. -/
theorem exec_jobCommand {c : HostId → List Byte → Instr}
    (hc : c ∈ ([.armJob, .disarmJob, .startJob, .abortJob, .deleteJob, .jobStatus] :
      List (HostId → List Byte → Instr))) :
    ∃ body : JobId → State → Reply, ∀ (h : HostId) (args : List Byte) (s : State),
      exec (c h args) s = .next (s.take h (c h args) (jobCommand h args body)) := by
  simp only [List.mem_cons, List.not_mem_nil, or_false] at hc
  rcases hc with rfl | rfl | rfl | rfl | rfl | rfl
  · exact ⟨_, fun _ _ _ => rfl⟩
  · exact ⟨_, fun _ _ _ => rfl⟩
  · exact ⟨_, fun _ _ _ => rfl⟩
  · exact ⟨_, fun _ _ _ => rfl⟩
  · exact ⟨_, fun _ _ _ => rfl⟩
  · exact ⟨_, fun _ _ _ => rfl⟩

/-- Settles O21: each of the six commands goes through `State.commandedJob`, whose refusals are those of R2. -/
theorem jobCommandChecks : Obligations.JobCommandChecks := by
  intro c hc h b s ho
  obtain ⟨body, hexec⟩ := exec_jobCommand hc
  obtain ⟨hrange, hjob⟩ := s.commandedJob_error h b
  have refused {st : Status} (he : s.commandedJob h [b] = .error st) :
      exec (c h [b]) s = .next (s.respond h st []) := by
    rw [hexec, ho.take, jobCommand_of_error he]
    rfl
  refine ⟨fun hb => refused (hrange hb), fun j hj => ⟨fun hf => ?_, fun hs hr => ?_, fun hf hg hne => ?_⟩⟩
  · exact refused ((hjob j hj).1 ((Job.gone_iff _).2 (.inl hf)))
  · exact refused ((hjob j hj).1 ((Job.gone_iff _).2 (.inr ⟨hs, hr⟩)))
  · refine refused ((hjob j hj).2 ?_ hne)
    rw [Bool.eq_false_iff, ne_eq, Job.gone_iff]
    exact fun hgone => hgone.elim hf hg

/-- A job command in hand that passes the checks of R2 has its own rule's outcome. -/
theorem exec_of_commandable {h : HostId} {s : State} {j : JobId} {i : Instr} {body : JobId → State → Reply}
    (hexec : exec i s = .next (s.take h i (jobCommand h [BitVec.ofNat 8 j.val] body)))
    (ho : s.Offered h i) (hc : s.Commandable h j) :
    exec i s = .next ((body j s).state.respond h (body j s).status (body j s).payload) := by
  rw [hexec, ho.take, jobCommand_of_commandable hc]

/-! ## ARM_JOB, DISARM_JOB, DELETE_JOB -/

/-- Settles O22, by the job's state. -/
theorem armJobArms : Obligations.ArmJobArms := by
  intro h s j ho hc
  rw [exec_of_commandable (body := State.armJob) rfl ho hc]
  refine ⟨fun hs => ?_, fun hidle hdone => ?_⟩
  · have harm : s.armJob j = (s.setJob j ((s.job j).arm s.timeBase)).answer [] := by
      unfold State.armJob
      rcases hs with hs | hs <;> simp only [hs]
    rw [harm]
    simp only [State.answer, Job.arm]
    cases (s.job j).repeatMode <;> rfl
  · have hrefuse : s.armJob j = s.refuse .wrongState := by
      unfold State.armJob
      split <;> simp_all
    rw [hrefuse]
    rfl

/-- Taking a job from the queue and then writing its record is one change of the two. -/
theorem State.dequeue_setJob (s : State) (j : JobId) (r : Job) :
    (s.dequeue j).setJob j r = { s with queue := s.queue.erase j, jobs := s.jobs.put j r } := by
  simp [State.setJob, State.dequeue]

@[simp] theorem State.dequeue_job_same (s : State) (j : JobId) :
    (s.dequeue j).job j = { s.job j with blocked := false } := by
  simp [State.job]

/-- Settles O23, by the job's state. -/
theorem disarmJobByState : Obligations.DisarmJobByState := by
  intro h s j ho hc
  rw [exec_of_commandable (body := State.disarmJob) rfl ho hc]
  dsimp only
  refine ⟨fun hs => ?_, fun hs => ?_, fun hs => ?_, fun hs => ?_⟩
  · rcases hs with hs | hs <;> simp only [State.disarmJob, hs, State.answer]
  · simp only [State.disarmJob, hs, State.answer, State.dequeue_setJob, State.dequeue_job_same]
  · rcases hs with hs | hs | hs | hs <;> simp only [State.disarmJob, hs, State.answer]
  · simp only [State.disarmJob, hs, State.refuse]

/-- What a record's return to FREE leaves (R20, R80, R103, R157). -/
theorem State.freeJob_eq (s : State) (j : JobId) :
    let k := (s.job j).seq
    let q := s.seqs.at k
    s.freeJob j = { s with
      jobs := s.jobs.put j Job.free
      seqs := s.seqs.put k (if q.owner = none ∧ q.refCount ≤ 1 then Seq.free else { q with refCount := q.refCount - 1 })
      freeSteps := if q.owner = none ∧ q.refCount ≤ 1 then s.freeSteps + q.steps.length else s.freeSteps
      windows := s.windows.put (s.job j).owner ((s.windows.get (s.job j).owner).map fun w => w.revert j)
      waiting := s.waiting.filter fun p => p.job != j } := by
  dsimp only
  unfold State.freeJob State.dropReference
  dsimp only [State.setJob_seqs]
  split <;> simp [State.freeSeq, State.setSeq, State.setJob, State.revertWindows]

/-- Settles O26: the effect is `State.freeJob_eq`. -/
theorem deleteJobFreesTheRecord : Obligations.DeleteJobFreesTheRecord := by
  intro h s j ho hc
  rw [exec_of_commandable (body := State.deleteJob) rfl ho hc]
  dsimp only
  refine ⟨fun hidle hdone => ?_, fun hs => ?_⟩
  · have hrefuse : s.deleteJob j = s.refuse .wrongState := by
      unfold State.deleteJob
      split <;> simp_all
    rw [hrefuse]
    rfl
  · have hfree : s.deleteJob j = (s.freeJob j).answer [] := by
      unfold State.deleteJob
      rcases hs with hs | hs <;> simp only [hs]
    rw [hfree, s.freeJob_eq j, hc.2.2]
    rfl

end Sys2Proof.Machine

namespace Sys2Proof.Machine

/-! ## Numbers and codes on the wire (Tables 12-5, 12-9) -/

@[simp] theorem toNat_byteOf (n : Nat) : (byteOf n).toNat = n % 256 := by
  simp [byteOf]

theorem hostCode_lt (h : HostId) : hostCode h < 4 := by cases h <;> decide

theorem bit_lt (b : Bool) : bit b < 2 := by cases b <;> decide

theorem JobState.code_lt (st : JobState) : st.code < 16 := by cases st <;> decide

theorem JobClass.code_lt (c : JobClass) : c.code < 2 := by cases c <;> decide

theorem TriggerSource.code_lt (c : TriggerSource) : c.code < 8 := by
  cases c <;> simp only [TriggerSource.code] <;> omega

theorem BusyPolicy.code_lt (c : BusyPolicy) : c.code < 2 := by cases c <;> decide

theorem RepeatMode.code_lt (c : RepeatMode) : c.code < 4 := by cases c <;> simp [RepeatMode.code]

theorem ResumePolicy.code_lt (c : ResumePolicy) : c.code < 2 := by cases c <;> decide

theorem LatePolicy.code_lt (c : LatePolicy) : c.code < 2 := by cases c <;> decide

theorem OverflowPolicy.code_lt (c : OverflowPolicy) : c.code < 2 := by cases c <;> decide

theorem stopCode_lt (c : Option StopReason) : stopCode c < 4 := by
  rcases c with _ | c
  · decide
  · cases c <;> decide

/-- Two bytes, most significant first, carry a number below 2^16. -/
theorem pair_of_bytes (n : Nat) : n / 256 % 256 * 256 + n % 256 = n % 65536 := by omega

theorem triple_of_bytes (n : Nat) :
    (n / 65536 % 256 * 256 + n / 256 % 256) * 256 + n % 256 = n % 16777216 := by omega

/-- Four bytes, most significant first, carry a moment. -/
theorem quad_of_bytes (t : Time) :
    ((t.toNat / 16777216 % 256 * 256 + t.toNat / 65536 % 256) * 256 + t.toNat / 256 % 256) * 256 + t.toNat % 256 =
      t.toNat := by
  have := t.isLt
  omega

/-- Settles O27: the image is written out byte by byte; each packed byte is the sum of its fields, since every code is
below its field's width. -/
theorem jobStatusReportsTheRecord : Obligations.JobStatusReportsTheRecord := by
  intro h s j ho hc
  dsimp only
  refine ⟨(s.job j).image j (s.openField 1), ?_, ?_⟩
  · rw [exec_of_commandable (body := State.jobStatus) rfl ho hc]
    rfl
  · rw [← hc.2.2]
    generalize s.openField 1 = openLatch
    generalize s.job j = r
    have howner := hostCode_lt r.owner
    have hstate := r.state.code_lt
    have hcls := r.cls.code_lt
    have hblocked := bit_lt r.blocked
    have hresume := r.resume.code_lt
    have hsource := r.source.code_lt
    have hbusy := r.busy.code_lt
    have hrepeat := r.repeatMode.code_lt
    have hlate := r.late.code_lt
    have hoverflow := r.overflow.code_lt
    have hlatch := bit_lt r.latch.isSome
    have hmissed := bit_lt r.deadlineMissed
    have hdisarm := bit_lt r.disarmPending
    have hstop := stopCode_lt r.stopReason
    have hpriority := r.priority.isLt
    have hseq := r.seq.isLt
    simp only [Job.image, bytesOf, numberAt, packBits, bitsByte, List.cons_append, List.nil_append, List.length_cons,
      List.length_nil, List.drop_succ_cons, List.drop_zero, List.take_succ_cons, List.take_zero, List.foldl_cons,
      List.foldl_nil, toNat_byteOf, Nat.reducePow, Nat.zero_mul, Nat.zero_add, Nat.div_one, pair_of_bytes,
      triple_of_bytes, quad_of_bytes]
    refine ⟨trivial, by omega, by omega, by omega, by omega, ?_, trivial, trivial, trivial, by omega, ?_, trivial,
      Nat.mod_eq_of_lt r.runNumber.isLt, trivial, trivial, ?_, ?_, trivial⟩
    · cases r.repeatMode <;> rfl
    · intro stamp hs
      rw [hs, Option.getD_some]
    · intro f hf
      rw [hf, frameCode, Option.elim_some]
      omega
    · intro hf
      rw [hf]
      rfl

end Sys2Proof.Machine

namespace Sys2Proof.Machine

/-! ## The arguments of CREATE_JOB (R3, Tables 12-4, 12-5) -/

theorem index?_eq_some_iff {n v : Nat} {i : Fin n} : index? n v = some i ↔ v = i.val := by
  unfold index?
  split
  · rw [Option.some.injEq, Fin.ext_iff]
  · simp only [reduceCtorEq, false_iff]
    omega

theorem index?_isSome_iff {n v : Nat} : (index? n v).isSome = true ↔ v < n := by
  unfold index?; split <;> simp_all

theorem classOf_isSome_iff {n : Nat} : (classOf n).isSome = true ↔ n ≤ 1 := by
  rcases n with _ | _ | n <;> simp [classOf]

theorem busyOf_isSome_iff {n : Nat} : (busyOf n).isSome = true ↔ n ≤ 1 := by
  rcases n with _ | _ | n <;> simp [busyOf]

theorem resumeOf_isSome_iff {n : Nat} : (resumeOf n).isSome = true ↔ n ≤ 1 := by
  rcases n with _ | _ | n <;> simp [resumeOf]

theorem lateOf_isSome_iff {n : Nat} : (lateOf n).isSome = true ↔ n ≤ 1 := by
  rcases n with _ | _ | n <;> simp [lateOf]

theorem overflowOf_isSome_iff {n : Nat} : (overflowOf n).isSome = true ↔ n ≤ 1 := by
  rcases n with _ | _ | n <;> simp [overflowOf]

theorem sourceOf_isSome_iff {n : Nat} : (sourceOf n).isSome = true ↔ n ≤ 7 := by
  rcases n with _ | _ | _ | _ | _ | _ | _ | _ | n <;> simp [sourceOf]

theorem sourceOf_eq_period_iff {n : Nat} : sourceOf n = some .period ↔ n = 6 := by
  rcases n with _ | _ | _ | _ | _ | _ | _ | _ | n <;> simp [sourceOf]

theorem repeatOf_isSome_iff {n c : Nat} : (repeatOf n c).isSome = true ↔ n ≤ 2 ∧ ¬(n = 1 ∧ c = 0) := by
  rcases n with _ | _ | _ | n <;> simp [repeatOf]

theorem periodOf_isSome_iff {source : TriggerSource} {v : Nat} :
    (periodOf source v).isSome = true ↔ (source = .period → 20 ≤ v ∧ v ≤ 1048575) := by
  unfold periodOf; split
  · simp_all
  · split <;> simp_all

/-- The argument bytes of CREATE_JOB that check 1 of R3, with the range of the sequence index, lets pass. -/
theorem jobArgs_isSome_iff (args : List Byte) :
    (jobArgs args).isSome = true ↔
      argByte args 0 < 32 ∧ argByte args 1 ≤ 1 ∧ argByte args 2 < 4 ∧ argByte args 3 ≤ 7 ∧
      (argByte args 3 = 6 → 20 ≤ argTriple args 4 ∧ argTriple args 4 ≤ 1048575) ∧ argByte args 7 ≤ 1 ∧
      (argByte args 8 ≤ 2 ∧ ¬(argByte args 8 = 1 ∧ argByte args 9 = 0)) ∧ argByte args 10 ≤ 1 ∧
      argByte args 13 ≤ 1 ∧ argByte args 14 ≤ 1 := by
  rw [← index?_isSome_iff, ← classOf_isSome_iff, ← index?_isSome_iff, ← sourceOf_isSome_iff, ← busyOf_isSome_iff,
    ← repeatOf_isSome_iff, ← resumeOf_isSome_iff, ← lateOf_isSome_iff, ← overflowOf_isSome_iff,
    ← sourceOf_eq_period_iff]
  unfold jobArgs
  cases hsource : sourceOf (argByte args 3) with
  | none => simp
  | some source =>
    rw [Option.some.injEq, ← periodOf_isSome_iff]
    simp [Option.isSome_iff_exists, Option.bind_eq_some_iff]

theorem jobArgs_seq {args : List Byte} {a : JobArgs} (ha : jobArgs args = some a) : a.seq.val = argByte args 0 := by
  simp only [jobArgs, Option.bind_eq_bind, Option.bind_eq_some_iff, Option.some.injEq] at ha
  obtain ⟨seq, hseq, _, _, _, _, _, _, _, _, _, _, _, _, _, _, _, _, _, _, rfl⟩ := ha
  exact (index?_eq_some_iff.1 hseq).symm

/-- What CREATE_JOB answers to arguments of its length (R3). -/
theorem exec_createJob {h : HostId} {s : State} {args : List Byte} (ho : s.Offered h (.createJob h args))
    (hl : args.length = 15) :
    (jobArgs args = none → exec (.createJob h args) s = .next (s.respond h .badArgument [])) ∧
    (∀ a, jobArgs args = some a → exec (.createJob h args) s =
      .next ((s.createJob h a).state.respond h (s.createJob h a).status (s.createJob h a).payload)) := by
  have hexec : exec (.createJob h args) s = .next (s.take h (.createJob h args) (expecting 15 args fun t =>
    match jobArgs args with
    | none => t.refuse .badArgument
    | some a => t.createJob h a)) := rfl
  rw [hexec, ho.take, expecting_of_length _ _ hl]
  refine ⟨fun hn => ?_, fun a ha => ?_⟩
  · rw [hn]
    rfl
  · rw [ha]

theorem Seq.usableBy_iff (q : Seq) (h : HostId) :
    q.usableBy h = true ↔ q.owner = some h ∨ q.owner ≠ none ∧ q.scope = .shared := by
  simp [Seq.usableBy, Option.isSome_iff_ne_none]

theorem mem_allJobs (j : JobId) : j ∈ allJobs := by revert j; decide

theorem State.lowestFreeJob_eq_none {s : State} (hf : ∀ j : JobId, (s.job j).state ≠ .free) :
    s.lowestFreeJob = none := by
  simpa [State.lowestFreeJob, List.find?_eq_none] using fun j _ => hf j

/-- Settles O20: the arguments by `jobArgs_isSome_iff`, then the checks of `State.createJob`. -/
theorem createJobRefusals : Obligations.CreateJobRefusals := by
  intro h s args ho hl
  obtain ⟨hnone, hsome⟩ := exec_createJob ho hl
  have htriple : numberAt args 4 3 = argTriple args 4 := by
    obtain ⟨a, b, c, d, e, f, g, rest, rfl⟩ : ∃ a b c d e f g rest, args = a :: b :: c :: d :: e :: f :: g :: rest := by
      match args, hl with
      | a :: b :: c :: d :: e :: f :: g :: rest, _ => exact ⟨a, b, c, d, e, f, g, rest, rfl⟩
    simp [numberAt, argTriple, argPair, argByte]
  have hvalid := jobArgs_isSome_iff args
  dsimp only
  rw [htriple]
  simp only [← argByte.eq_def]
  refine ⟨fun hbad => hnone ?_, fun hgood k hk => ?_⟩
  · rw [← Option.not_isSome_iff_eq_none, hvalid]
    omega
  · obtain ⟨a, ha⟩ := Option.isSome_iff_exists.1 (hvalid.2 (by omega))
    obtain rfl : a.seq = k := Fin.ext ((jobArgs_seq ha).trans hk)
    rw [hsome a ha, State.createJob]
    refine ⟨fun hd => ?_, fun hd hu => ?_, fun hd hu hf => ?_⟩
    · simp [hd, State.refuse]
    · have hunusable : (s.seqs.at a.seq).usableBy h = false := by
        rw [Bool.eq_false_iff, ne_eq, Seq.usableBy_iff]
        rcases hu with hu | ⟨hu, hp⟩ <;> simp_all
      simp [hd, hunusable, State.refuse]
    · simp [hd, (Seq.usableBy_iff _ h).2 hu, State.lowestFreeJob_eq_none hf, State.refuse]

/-! ## The record that CREATE_JOB fills (R4) -/

theorem classOf_code (c : JobClass) : classOf c.code = some c := by cases c <;> rfl

theorem busyOf_code (c : BusyPolicy) : busyOf c.code = some c := by cases c <;> rfl

theorem resumeOf_code (c : ResumePolicy) : resumeOf c.code = some c := by cases c <;> rfl

theorem lateOf_code (c : LatePolicy) : lateOf c.code = some c := by cases c <;> rfl

theorem overflowOf_code (c : OverflowPolicy) : overflowOf c.code = some c := by cases c <;> rfl

theorem sourceOf_code (c : TriggerSource) : sourceOf c.code = some c := by
  cases c with
  | xt n => revert n; decide
  | _ => rfl

theorem repeatOf_code {m : RepeatMode} (hm : ∀ n, m = .count n → 1 ≤ n) :
    repeatOf m.code m.countByte = some m := by
  cases m with
  | count n => exact if_neg (Nat.one_le_iff_ne_zero.1 (hm n rfl))
  | _ => rfl

/-- The arguments that the bytes of a command in range carry (Table 12-4). -/
theorem jobArgs_bytes {a : JobArgs} (ha : a.InRange) : jobArgs a.bytes = some a := by
  obtain ⟨hsource, hperiod, hdeadline, hcount⟩ := ha
  have hseq := a.seq.isLt
  have hpriority := a.priority.isLt
  have hcls := a.cls.code_lt
  have hsrc := a.source.code_lt
  have hbusy := a.busy.code_lt
  have hrepeat := a.repeatMode.code_lt
  have hresume := a.resume.code_lt
  have hlate := a.late.code_lt
  have hoverflow := a.overflow.code_lt
  have hbyte : a.repeatMode.countByte < 256 := by
    cases hm : a.repeatMode with
    | count n => have := hcount n hm; simp only [RepeatMode.countByte]; omega
    | _ => exact Nat.zero_lt_succ _
  have hperiodOf : periodOf a.source (a.period.getD 0 % 16777216) = some a.period := by
    cases hp : a.period with
    | none => exact if_pos fun hs => by simp [hp, hs] at hsource
    | some p =>
      have hb := hperiod p hp
      have hs := hsource.1 (by rw [hp]; rfl)
      have hmod : p % 16777216 = p := Nat.mod_eq_of_lt (by omega)
      simp [periodOf, hs, hmod, hb]
  have hdeadlineOf : deadlineOf (a.deadline.getD 0 % 65536) = a.deadline := by
    cases hd : a.deadline with
    | none => rfl
    | some d =>
      have hb := hdeadline d hd
      have hmod : d % 65536 = d := Nat.mod_eq_of_lt (by omega)
      simp only [deadlineOf, Option.getD_some, hmod]
      exact if_neg (by omega)
  have small {n : Nat} (hn : n < 32) : n % 256 = n := Nat.mod_eq_of_lt (by omega)
  simp only [jobArgs, JobArgs.bytes, argByte, argPair, argTriple, bytesOf, List.cons_append, List.nil_append,
    List.getD_cons_zero, List.getD_cons_succ, toNat_byteOf, Nat.reduceAdd, Nat.reducePow, Nat.div_one, pair_of_bytes,
    triple_of_bytes]
  rw [small hseq, small (by omega : a.cls.code < 32), small (by omega : a.priority.val < 32),
    small (by omega : a.source.code < 32), small (by omega : a.busy.code < 32),
    small (by omega : a.repeatMode.code < 32), Nat.mod_eq_of_lt hbyte, small (by omega : a.resume.code < 32),
    small (by omega : a.late.code < 32), small (by omega : a.overflow.code < 32), index?_some hseq, classOf_code,
    index?_some hpriority, sourceOf_code, busyOf_code, repeatOf_code fun n hn => (hcount n hn).1, resumeOf_code,
    lateOf_code, overflowOf_code, hdeadlineOf]
  simp [hperiodOf]

theorem allJobs_eq_finRange : allJobs = List.finRange 24 := by decide

/-- The search of the table in ascending order finds the lowest record. -/
theorem find?_allJobs_of_least {p : JobId → Bool} {j : JobId} (hj : p j = true)
    (hlt : ∀ k, k < j → p k = false) : allJobs.find? p = some j := by
  rw [allJobs_eq_finRange, List.find?_eq_some_iff_getElem]
  refine ⟨hj, j.val, by simp, by simp, fun i hi => ?_⟩
  rw [List.getElem_finRange, hlt _ (by simpa [Fin.lt_def] using hi), Bool.not_false]

/-- Settles O19: the bytes carry the arguments (`jobArgs_bytes`), and every check of R3 passes. -/
theorem createJobTakesTheLowestFreeRecord : Obligations.CreateJobTakesTheLowestFreeRecord := by
  intro h s a j ho ha hd hu hj hlt
  have hlowest : s.lowestFreeJob = some j :=
    find?_allJobs_of_least (by simp [hj]) fun k hk => by simpa using hlt k hk
  have hcreate : s.createJob h a = (s.create h a j).answer [byteOf j.val] := by
    unfold State.createJob
    dsimp only
    rw [if_neg (by simp [hd]), if_neg (by simp [(Seq.usableBy_iff _ h).2 hu]), hlowest]
  rw [(exec_createJob ho rfl).2 a (jobArgs_bytes ha), hcreate]
  rfl

end Sys2Proof.Machine

namespace Sys2Proof.Machine

/-! ## Reset (R22, R169, R177) -/

/-- Every row but the two of RESET_N is an arrival of the part's own or a host's command. -/
theorem exec_live_or_take {i : Instr} (ha : i ≠ .resetNAssert)
    (hr : ∀ (alloc : BitVec 2) (levels : LineLevels) (csLow : PerHost Bool), i ≠ .resetNRelease alloc levels csLow) :
    (∃ f : State → State, ∀ s : State, exec i s = .next (s.live f)) ∨
    (∃ (h : HostId) (block : State → Reply), ∀ s : State, exec i s = .next (s.take h i block)) := by
  cases i with
  | resetNAssert => exact absurd rfl ha
  | resetNRelease alloc levels csLow => exact absurd rfl (hr alloc levels csLow)
  | transactionBegin | transactionEnd | responseReady | trigEdge | xtEdge | periodExpiry | triggerPresented
  | stepComplete | calibrationComplete | settleExpiry | deadlineExpiry | leaseExpiry | triggerLineFallingEdge =>
    exact .inl ⟨_, fun _ => rfl⟩
  | nop | status | defineSeq | deleteSeq | readSeq | createJob | armJob | disarmJob | startJob | abortJob | deleteJob
  | jobStatus | fetchFrame | flushFrames | setWindow | clearWindow | acquireHold | renewHold | releaseHold | claimExc
  | requestCal | setCalInterval | readEvents | hostReset =>
    exact .inr ⟨_, _, fun _ => rfl⟩

/-- In reset nothing but a command of RESET_N acts. -/
theorem exec_of_inReset {i : Instr} {s : State} (hs : s.inReset = true) (ha : i ≠ .resetNAssert)
    (hr : ∀ (alloc : BitVec 2) (levels : LineLevels) (csLow : PerHost Bool), i ≠ .resetNRelease alloc levels csLow) :
    exec i s = .next s := by
  rcases exec_live_or_take ha hr with ⟨f, hf⟩ | ⟨h, block, hb⟩
  · rw [hf, State.live_of_reset _ hs]
  · rw [hb, State.take_of_not]
    simp [hs]

@[simp] theorem State.reset_job (j : JobId) : State.reset.job j = Job.free := Table.at_replicate ..

@[simp] theorem State.reset_window (h : HostId) (w : WindowId) : State.reset.window h w = Window.disabled := by
  simp [State.reset, State.window]

@[simp] theorem State.reset_port (h : HostId) : State.reset.port h = Port.reset := PerHost.get_same ..

/-- Settles O2: the blocks of `State.reset` are read off one by one, and in reset nothing acts (`exec_of_inReset`). -/
theorem resetAssertionReturnsEveryBlock : Obligations.ResetAssertionReturnsEveryBlock := by
  refine ⟨fun _ => rfl, ?_, fun s i hs ha hr => exec_of_inReset hs ha hr⟩
  refine ⟨rfl, rfl, rfl, rfl, rfl, rfl, fun j => ?_, fun k => ?_, fun f => ?_, fun h => ?_, fun j => ?_, rfl, rfl, rfl,
    fun g => ?_, rfl, rfl, by decide⟩
  · rw [State.reset_job]
    exact ⟨rfl, rfl, rfl, rfl⟩
  · simp [State.reset, Seq.free]
  · simp [State.reset, Frame.free]
  · refine ⟨?_, ?_, ?_, ?_, ?_, ?_, fun w => ?_⟩
    · exact PerHost.get_same ..
    · exact PerHost.get_same ..
    · exact PerHost.get_same ..
    · exact PerHost.get_same ..
    · rw [State.reset_port]; rfl
    · rw [State.reset_port]; rfl
    · rw [State.reset_window]; exact ⟨rfl, rfl, rfl⟩
  · simp [State.reset, Excitation.reset]
  · simp [State.reset, Group.reset]

/-! ## The invariants of a part with nothing in hand -/

/-- Every block but the ports, the events, the engine, the lines and the allowances stands as in reset. -/
structure State.Blank (s : State) : Prop where
  jobs : s.jobs = State.reset.jobs
  seqs : s.seqs = State.reset.seqs
  freeSteps : s.freeSteps = 256
  queue : s.queue = []
  exc : s.exc = Excitation.reset
  frames : s.frames = State.reset.frames
  pool : s.pool = allFrames
  inUse : s.inUse = PerHost.same 0
  delivery : s.delivery = PerHost.same []
  groups : s.groups = State.reset.groups
  windows : s.windows = State.reset.windows

section Blank
variable {s : State} (hb : s.Blank)
include hb

theorem State.Blank.job (j : JobId) : s.job j = Job.free := by
  rw [State.job, hb.jobs]
  exact State.reset_job j

theorem State.Blank.seq (k : SeqId) : s.seqs.at k = Seq.free := by
  rw [hb.seqs]
  exact Table.at_replicate ..

theorem State.Blank.group (g : GroupId) : s.groups.at g = Group.reset := by
  rw [hb.groups]
  exact Table.at_replicate ..

theorem State.Blank.frame (f : FrameId) : s.frames.at f = Frame.free := by
  rw [hb.frames]
  exact Table.at_replicate ..

theorem State.Blank.window (h : HostId) (w : WindowId) : s.window h w = Window.disabled := by
  rw [State.window, hb.windows]
  exact State.reset_window h w

theorem State.Blank.namers (k : SeqId) : s.namers k = 0 := by
  simp [State.namers, hb.job, Job.free]

theorem State.Blank.fillFrames (h : HostId) : s.fillFrames h = [] := by
  simp [State.fillFrames, hb.job, Job.free]

theorem State.Blank.scheduled (hstep : s.engine.step = none) (hsettling : s.engine.settlingJob = none)
    (hidle : s.engine.state ≠ .settling) (hconv : s.engine.state ≠ .converting) : s.Scheduled := by
  refine ⟨fun j => ?_, ⟨fun k => ?_, ?_⟩, ⟨?_, fun j => ?_⟩, ⟨fun j => ?_, fun j => ?_, ?_, ?_⟩, fun j hj => ?_⟩
  · rw [hb.job]
    simp [Job.Sound, Job.free, Job.periodRuns, JobState.busy]
  · simp [State.SeqSound, hb.namers, hb.seq, Seq.free]
  · simp [State.PoolSound, hb.freeSteps, hb.seq, Seq.free]
  · rw [hb.queue]
    exact List.nodup_nil
  · simp [hb.queue, hb.job, Job.free, JobState.queued]
  · simp [hb.job, hsettling, Job.free]
  · simp [hb.job, hstep, Job.free]
  · simp [hsettling, hidle]
  · simp [hstep, hconv]
  · simp [hb.job, Job.free] at hj

theorem State.Blank.excSound : s.exc.Sound := by
  rw [hb.exc]
  exact ⟨by decide, rfl⟩

theorem State.Blank.resourced (ha : s.allowance.h0 + s.allowance.h1 + s.allowance.h2 = 48) : s.Resourced := by
  refine ⟨?_, ⟨fun f _ => ?_, fun j f hf => ?_, fun h f hf => ?_⟩, ⟨fun h => ?_, ha⟩, fun j => ⟨?_, ?_, fun g => ?_⟩⟩
  · simp [State.PlacesSound, hb.fillFrames, hb.pool, hb.delivery, PerHost.same]
  · rw [hb.frame]
    rfl
  · simp [hb.job, Job.free] at hf
  · simp [hb.delivery] at hf
  · simp [hb.inUse, hb.fillFrames, hb.delivery]
  · simp [hb.job, Job.free, JobState.dispatched]
  · simp [hb.job, hb.exc, Job.free, JobState.dispatched, Excitation.reset]
  · simp [hb.job, hb.group, Job.free, JobState.dispatched, Group.reset]

theorem State.Blank.samplesSound : s.SamplesSound := by
  refine ⟨fun j f hf => ?_, fun h f hf => ?_, fun f k hk => ?_⟩
  · simp [hb.job, Job.free] at hf
  · simp [hb.delivery] at hf
  · simp [hb.frame, Frame.free, Sample.empty] at hk

theorem State.Blank.holdsSound : s.HoldsSound := by
  intro g
  simp [hb.group, Group.reset]

theorem State.Blank.windowsSound : s.WindowsSound := by
  intro h w
  simp [State.WindowSound, hb.window, Window.disabled]

end Blank

theorem Engine.sound_reset : Engine.reset.Sound := by
  refine ⟨rfl, fun h n hn => ?_, by decide, by decide, by decide, by decide, by decide⟩
  cases h <;> cases hn

theorem Engine.sound_startup : ({ Engine.reset with state := .calibrating } : Engine).Sound := by
  refine ⟨rfl, fun h n hn => ?_, by decide, by decide, by decide, by decide, by decide⟩
  cases h <;> cases hn

theorem State.reset_blank : State.reset.Blank := ⟨rfl, rfl, rfl, rfl, rfl, rfl, rfl, rfl, rfl, rfl, rfl⟩

theorem releasedState_blank (alloc : BitVec 2) (levels : LineLevels) (csLow : PerHost Bool) :
    (releasedState alloc levels csLow).Blank := ⟨rfl, rfl, rfl, rfl, rfl, rfl, rfl, rfl, rfl, rfl, rfl⟩

theorem allowancesOf_sum (alloc : BitVec 2) :
    (allowancesOf alloc).h0 + (allowancesOf alloc).h1 + (allowancesOf alloc).h2 = 48 := by
  unfold allowancesOf
  split <;> rfl

theorem releasedPort_sound (csLow : Bool) :
    ((releasedPort csLow).transaction = .shifting → (releasedPort csLow).Fresh) ∧ (releasedPort csLow).inHand = none ∧
    (releasedPort csLow).SlotSound := by
  cases csLow <;> simp [releasedPort, Port.reset, Port.SlotSound]

theorem releasedState_port (alloc : BitVec 2) (levels : LineLevels) (csLow : PerHost Bool) (h : HostId) :
    (releasedState alloc levels csLow).port h = releasedPort (csLow.get h) := by
  cases h <;> rfl

theorem releasedState_events (alloc : BitVec 2) (levels : LineLevels) (csLow : PerHost Bool) (h : HostId) :
    (releasedState alloc levels csLow).events.get h =
      ⟨[⟨0, none, none, .deviceReset h alloc ((allowancesOf alloc).get h)⟩], 0, true⟩ := by
  cases h <;> rfl

/-- Settles O60: in reset and after a release all blocks but ports, events and engine are blank. -/
theorem resetIsSound : Obligations.ResetIsSound := by
  rintro s (rfl | ⟨alloc, levels, csLow, hs⟩)
  · have hb := State.reset_blank
    refine ⟨fun h => ?_, hb.excSound, ⟨fun h hp => ?_, fun h i hi => ?_, fun hr => ?_⟩, hb.scheduled rfl rfl (by decide)
      (by decide), Engine.sound_reset, hb.resourced rfl, hb.samplesSound, hb.holdsSound, hb.windowsSound⟩
    · have hevents : State.reset.events.get h = EventQueue.reset := PerHost.get_same ..
      rw [hevents]
      exact ⟨by decide, by decide, rfl⟩
    · rw [State.reset_port] at hp
      cases hp
    · rw [State.reset_port] at hi
      cases hi
    · cases hr
  · have hrelease : exec (.resetNRelease alloc levels csLow) State.reset = .next (releasedState alloc levels csLow) := rfl
    obtain rfl : releasedState alloc levels csLow = s := by simpa [hrelease] using hs
    have hb := releasedState_blank alloc levels csLow
    refine ⟨fun h => ?_, hb.excSound, ⟨fun h => ?_, fun h i hi => ?_, fun _ h => ?_⟩, hb.scheduled rfl rfl (by simp [releasedState])
      (by simp [releasedState]), Engine.sound_startup, hb.resourced (allowancesOf_sum alloc), hb.samplesSound,
      hb.holdsSound, hb.windowsSound⟩
    · rw [releasedState_events]
      simp [EventQueue.Sound, EventQueue.calls]
    · rw [releasedState_port]
      exact (releasedPort_sound _).1
    · rw [releasedState_port, (releasedPort_sound _).2.1] at hi
      cases hi
    · rw [releasedState_port]
      exact (releasedPort_sound _).2.2

end Sys2Proof.Machine

namespace Sys2Proof.Machine

/-! ## Queue entries, run ends and deadlines (R6, R14, R15, R16, R44) -/

/-- A state after bookkeeping of the Job Controller: the job table, the dispatch queue and the event queues alone may
have changed. -/
structure State.Bookkept (s t : State) : Prop where
  decided : s.Decided t
  decisionDue : t.decisionDue = s.decisionDue
  engine : t.engine = s.engine
  exc : t.exc = s.exc
  frames : t.frames = s.frames
  pool : t.pool = s.pool
  inUse : t.inUse = s.inUse
  delivery : t.delivery = s.delivery
  groups : t.groups = s.groups

theorem State.Bookkept.refl (s : State) : s.Bookkept s := ⟨.refl s, rfl, rfl, rfl, rfl, rfl, rfl, rfl, rfl⟩

theorem State.Bookkept.trans {s t u : State} (h : s.Bookkept t) (k : t.Bookkept u) : s.Bookkept u :=
  ⟨h.decided.trans k.decided, k.decisionDue.trans h.decisionDue, k.engine.trans h.engine, k.exc.trans h.exc,
    k.frames.trans h.frames, k.pool.trans h.pool, k.inUse.trans h.inUse, k.delivery.trans h.delivery,
    k.groups.trans h.groups⟩

theorem State.Bookkept.ite {s t u : State} {c : Prop} [Decidable c] (h : s.Bookkept t) (k : s.Bookkept u) :
    s.Bookkept (if c then t else u) := by
  split
  · exact h
  · exact k

/-- Two outcomes of bookkeeping are equal when they agree in job table, dispatch queue and event queues. -/
theorem State.Bookkept.eq {s t u : State} (ht : s.Bookkept t) (hu : s.Bookkept u) (hjobs : t.jobs = u.jobs)
    (hqueue : t.queue = u.queue) (hevents : t.events = u.events) : t = u := by
  obtain ⟨⟨⟨_, _, _, _, _, _, _⟩, _, _, _, _, _⟩, _, _, _, _, _, _, _, _⟩ := ht
  obtain ⟨⟨⟨_, _, _, _, _, _, _⟩, _, _, _, _, _⟩, _, _, _, _, _, _, _, _⟩ := hu
  cases t
  cases u
  simp_all

section Bookkept
variable (s : State) (j : JobId)

theorem State.bookkept_of_tables (jobs : Table Job 24) (queue : List JobId) (events : PerHost EventQueue) :
    s.Bookkept { s with jobs := jobs, queue := queue, events := events } :=
  ⟨⟨⟨rfl, rfl, rfl, rfl, rfl, rfl, rfl⟩, rfl, rfl, rfl, rfl, rfl⟩, rfl, rfl, rfl, rfl, rfl, rfl, rfl, rfl⟩

theorem State.setJob_bookkept (r : Job) : s.Bookkept (s.setJob j r) := s.bookkept_of_tables _ _ _

theorem State.emit_bookkept (h : HostId) (i : Option JobId) (f : Option FrameId) (b : EventBody) :
    s.Bookkept (s.emit h i f b) := s.bookkept_of_tables _ _ _

theorem State.enqueue_bookkept : s.Bookkept (s.enqueue j) := s.bookkept_of_tables _ _ _

theorem State.dequeue_bookkept : s.Bookkept (s.dequeue j) := s.bookkept_of_tables _ _ _

theorem State.reportLate_bookkept : s.Bookkept (s.reportLate j) := s.bookkept_of_tables _ _ _

theorem State.refreshBlocked_bookkept : s.Bookkept s.refreshBlocked := by
  have fold (f : JobId → State → Job) (l : List JobId) (t : State) :
      t.Bookkept (l.foldl (fun u k => u.setJob k (f k u)) t) := by
    induction l generalizing t with
    | nil => exact .refl t
    | cons k l ih => exact (t.setJob_bookkept k _).trans (ih _)
  exact fold _ _ s

theorem State.rest_bookkept (st : JobState) : s.Bookkept (s.rest j st) :=
  .ite ((s.setJob_bookkept j _).trans (State.emit_bookkept ..)) (s.setJob_bookkept j _)

theorem State.enterPending_bookkept (stamp : Time) (mark : Option EdgeMark) :
    s.Bookkept (s.enterPending j stamp mark) := (s.setJob_bookkept j _).trans (State.enqueue_bookkept ..)

theorem State.endCounted_bookkept {late : State → State} (hl : ∀ t : State, t.Bookkept (late t)) :
    s.Bookkept (s.endCounted late j) := by
  unfold State.endCounted
  refine (s.setJob_bookkept j (s.job j).bookkept).trans (.ite ?_ (State.rest_bookkept ..))
  split
  · exact (State.enterPending_bookkept ..).trans (hl _)
  · exact State.setJob_bookkept ..

theorem State.dropPending_bookkept {late : State → State} (hl : ∀ t : State, t.Bookkept (late t)) :
    s.Bookkept (s.dropPending late j) :=
  ((s.dequeue_bookkept j).trans (State.setJob_bookkept ..)).trans (State.endCounted_bookkept _ j hl)

theorem State.latePending_bookkept {late : State → State} (hl : ∀ t : State, t.Bookkept (late t)) :
    s.Bookkept (s.latePending late j) := by
  refine (s.reportLate_bookkept j).trans ?_
  unfold State.latePending
  split
  · exact State.setJob_bookkept ..
  · exact State.dropPending_bookkept _ j hl

theorem State.expireAtOnce_bookkept : s.Bookkept (s.expireAtOnce j) :=
  .ite (s.latePending_bookkept j State.Bookkept.refl) (.refl s)

theorem State.endRun_bookkept : s.Bookkept (s.endRun j) := s.endCounted_bookkept j fun t => t.expireAtOnce_bookkept j

theorem State.refuseRun_bookkept : s.Bookkept (s.refuseRun j) :=
  (((s.dequeue_bookkept j).trans (State.setJob_bookkept ..)).trans (State.emit_bookkept ..)).trans
    (State.endRun_bookkept ..)

end Bookkept

/-! What an entry into the dispatch queue and a departure leave as it was (R24). -/

@[simp] theorem State.enqueue_timeBase (s : State) (j : JobId) : (s.enqueue j).timeBase = s.timeBase := rfl
@[simp] theorem State.enqueue_seqs (s : State) (j : JobId) : (s.enqueue j).seqs = s.seqs := rfl
@[simp] theorem State.enqueue_freeSteps (s : State) (j : JobId) : (s.enqueue j).freeSteps = s.freeSteps := rfl
@[simp] theorem State.enqueue_decisionDue (s : State) (j : JobId) : (s.enqueue j).decisionDue = s.decisionDue := rfl
@[simp] theorem State.enqueue_engine (s : State) (j : JobId) : (s.enqueue j).engine = s.engine := rfl
@[simp] theorem State.enqueue_exc (s : State) (j : JobId) : (s.enqueue j).exc = s.exc := rfl
@[simp] theorem State.enqueue_frames (s : State) (j : JobId) : (s.enqueue j).frames = s.frames := rfl
@[simp] theorem State.enqueue_pool (s : State) (j : JobId) : (s.enqueue j).pool = s.pool := rfl
@[simp] theorem State.enqueue_allowance (s : State) (j : JobId) : (s.enqueue j).allowance = s.allowance := rfl
@[simp] theorem State.enqueue_inUse (s : State) (j : JobId) : (s.enqueue j).inUse = s.inUse := rfl
@[simp] theorem State.enqueue_delivery (s : State) (j : JobId) : (s.enqueue j).delivery = s.delivery := rfl
@[simp] theorem State.enqueue_groups (s : State) (j : JobId) : (s.enqueue j).groups = s.groups := rfl
@[simp] theorem State.enqueue_events (s : State) (j : JobId) : (s.enqueue j).events = s.events := rfl

@[simp] theorem State.dequeue_timeBase (s : State) (j : JobId) : (s.dequeue j).timeBase = s.timeBase := rfl
@[simp] theorem State.dequeue_seqs (s : State) (j : JobId) : (s.dequeue j).seqs = s.seqs := rfl
@[simp] theorem State.dequeue_freeSteps (s : State) (j : JobId) : (s.dequeue j).freeSteps = s.freeSteps := rfl
@[simp] theorem State.dequeue_decisionDue (s : State) (j : JobId) : (s.dequeue j).decisionDue = s.decisionDue := rfl
@[simp] theorem State.dequeue_engine (s : State) (j : JobId) : (s.dequeue j).engine = s.engine := rfl
@[simp] theorem State.dequeue_exc (s : State) (j : JobId) : (s.dequeue j).exc = s.exc := rfl
@[simp] theorem State.dequeue_frames (s : State) (j : JobId) : (s.dequeue j).frames = s.frames := rfl
@[simp] theorem State.dequeue_pool (s : State) (j : JobId) : (s.dequeue j).pool = s.pool := rfl
@[simp] theorem State.dequeue_allowance (s : State) (j : JobId) : (s.dequeue j).allowance = s.allowance := rfl
@[simp] theorem State.dequeue_inUse (s : State) (j : JobId) : (s.dequeue j).inUse = s.inUse := rfl
@[simp] theorem State.dequeue_delivery (s : State) (j : JobId) : (s.dequeue j).delivery = s.delivery := rfl
@[simp] theorem State.dequeue_groups (s : State) (j : JobId) : (s.dequeue j).groups = s.groups := rfl
@[simp] theorem State.dequeue_events (s : State) (j : JobId) : (s.dequeue j).events = s.events := rfl

@[simp] theorem State.reportLate_queue (s : State) (j : JobId) : (s.reportLate j).queue = s.queue := rfl

theorem Job.runsLeft_eq (r : Job) : r.runsLeft = r.runsAfter := rfl

/-- Steps 1 and 2 of R14 in the words of the statements. -/
theorem Job.stateAfterRun_eq (r : Job) : r.stateAfterRun = r.endState := by
  unfold Job.stateAfterRun Job.satisfied Job.endState Job.runsLeft
  cases r.repeatMode <;> simp

theorem Job.endState_cases (r : Job) : r.endState = .done ∨ r.endState = .idle ∨ r.endState = .armed := by
  rw [← r.stateAfterRun_eq]
  unfold Job.stateAfterRun
  split
  · exact .inl rfl
  · split
    · exact .inr (.inl rfl)
    · exact .inr (.inr rfl)

@[simp] theorem State.enqueue_job_same (s : State) (j : JobId) :
    (s.enqueue j).job j = { s.job j with blocked := false } := by
  simp [State.job]

theorem erase_placeInQueue {before : JobId → Bool} {j : JobId} {l : List JobId} (hj : j ∉ l) :
    (placeInQueue before j l).erase j = l := by
  induction l with
  | nil => simp [placeInQueue]
  | cons k ks ih =>
    have hk : k ≠ j := fun h => hj (h ▸ List.mem_cons_self)
    unfold placeInQueue
    split
    · exact List.erase_cons_head ..
    · rw [List.erase_cons_tail (by simpa using hk), ih fun h => hj (List.mem_cons_of_mem _ h)]

/-- The place of an entry depends on its class, priority, state and stamp alone (R25, R26). -/
theorem precedes_congr (now : Time) {a a' b b' : Job} (ja jb : JobId) (ha : a'.cls = a.cls ∧ a'.priority = a.priority ∧
    a'.state = a.state ∧ a'.stamp = a.stamp) (hb : b'.cls = b.cls ∧ b'.priority = b.priority ∧ b'.state = b.state ∧
    b'.stamp = b.stamp) : precedes now a' b' ja jb = precedes now a b ja jb := by
  obtain ⟨hac, hap, has, hat⟩ := ha
  obtain ⟨hbc, hbp, hbs, hbt⟩ := hb
  simp only [precedes, precedesByStamp, hac, hap, has, hat, hbc, hbp, hbs, hbt]

/-- A job at rest in IDLE or DONE after a counted run (R14 steps 5 and 6, R15). -/
theorem State.rest_eq (s : State) (j : JobId) (st : JobState) :
    let r := s.job j
    let missed := if r.latch.isSome then min 255 (r.missed + 1) else r.missed
    s.rest j st = { s with
      jobs := s.jobs.put j { r with state := st, latch := none, missed := missed, periodTimer := none }
      events := if st = .done then s.events.put r.owner ((s.events.get r.owner).push
          ⟨s.timeBase, some j, none, .jobDone r.runNumber missed⟩)
        else s.events } := by
  dsimp only
  unfold State.rest
  split <;> rfl

/-- The record of a job that comes to rest after a counted run. -/
theorem Job.ended_of_rest {r : Job} (hs : r.endState ≠ .armed) :
    { r.bookkept with
      state := r.endState, latch := none, periodTimer := none
      missed := if r.bookkept.latch.isSome then min 255 (r.bookkept.missed + 1) else r.bookkept.missed } = r.ended := by
  simp [Job.ended, Job.bookkept, hs, Job.runsLeft_eq]
  rfl

/-- The record of a job that comes to ARMED with no latch to consume. -/
theorem Job.ended_of_armed {r : Job} (hs : r.endState = .armed) (hl : r.latch = none) :
    { r.bookkept with state := .armed } = r.ended := by
  simp [Job.ended, Job.bookkept, hs, hl, Job.runsLeft_eq]

/-- A counted run end that consumes no latch leaves the record `Job.ended`, and reports DONE (R14, R15). -/
theorem State.endCounted_of_no_latch (late : State → State) {s : State} {j : JobId}
    (hl : (s.job j).endState ≠ .armed ∨ (s.job j).latch = none) :
    s.endCounted late j = { s with
      jobs := s.jobs.put j (s.job j).ended
      events := if (s.job j).endState = .done then s.events.put (s.job j).owner ((s.events.get (s.job j).owner).push
          ⟨s.timeBase, some j, none, .jobDone (s.job j).runNumber (s.job j).ended.missed⟩)
        else s.events } := by
  unfold State.endCounted
  dsimp only
  rw [Job.stateAfterRun_eq]
  by_cases ha : (s.job j).endState = .armed
  · have hn := hl.resolve_left (absurd ha)
    rw [if_pos ha, hn, State.setJob_job_same, Job.ended_of_armed ha hn, State.setJob_setJob, if_neg (by simp [ha])]
    rfl
  · rw [if_neg ha, State.rest_eq]
    dsimp only [State.setJob_events, State.setJob_timeBase, State.setJob_jobs]
    rw [State.setJob_job_same, Job.ended_of_rest ha, Table.put_put]
    simp only [Job.ended, Job.bookkept, ne_eq, ha, not_false_eq_true, and_true]
    rfl

/-- The same, for a record and a report that have just been written. -/
theorem State.endCounted_put (late : State → State) (s : State) (j : JobId) (r : Job) (queue : List JobId)
    (told : EventQueue) (hl : r.endState ≠ .armed ∨ r.latch = none) :
    State.endCounted late { s with
        queue := queue, jobs := s.jobs.put j r, events := s.events.put r.owner told } j = { s with
      queue := queue, jobs := s.jobs.put j r.ended
      events := s.events.put r.owner (if r.endState = .done then
        told.push ⟨s.timeBase, some j, none, .jobDone r.runNumber r.ended.missed⟩ else told) } := by
  have hjob : ({ s with queue := queue, jobs := s.jobs.put j r, events := s.events.put r.owner told } : State).job j =
      r := Table.at_put_same ..
  rw [State.endCounted_of_no_latch late (by rw [hjob]; exact hl)]
  simp only [hjob, Table.put_put, PerHost.get_put_same, PerHost.put_put]
  split <;> rfl

/-- A counted run end at ARMED consumes the latch into a new run (R15). -/
theorem State.endCounted_of_latch (late : State → State) {s : State} {j : JobId} {stamp : Time}
    (ha : (s.job j).endState = .armed) (hl : (s.job j).latch = some stamp) :
    s.endCounted late j = late ((s.setJob j ((s.job j).ended.triggered stamp none)).enqueue j) := by
  have hrecord : { (s.job j).bookkept with
      state := .pending, triggerTime := stamp, stamp := ⟨stamp, none⟩, missed := 0, deadlineMissed := false
      latch := none, deadlineTimer := (s.job j).bookkept.deadline.map (after stamp) } =
      (s.job j).ended.triggered stamp none := by
    simp [Job.ended, Job.triggered, Job.bookkept, ha, Job.runsLeft_eq]
    rfl
  unfold State.endCounted State.enterPending
  dsimp only
  rw [Job.stateAfterRun_eq, if_pos ha, hl]
  dsimp only
  rw [State.setJob_job_same, hrecord, State.setJob_setJob]

/-- The deadline of a job's run has passed already (R44). -/
theorem State.passedAtOnce_iff (s : State) (j : JobId) :
    s.passedAtOnce j = true ↔ (s.job j).PastDeadline (s.job j).triggerTime s.timeBase := by
  unfold State.passedAtOnce Job.PastDeadline age
  cases (s.job j).deadline <;> simp

/-- Writing a queued job's record again, in items no place in the queue depends on, as if it had entered so. -/
theorem State.setJob_enqueue {s : State} {j : JobId} {r q : Job} (hq : q.cls = r.cls ∧ q.priority = r.priority ∧
    q.state = r.state ∧ q.stamp = r.stamp) :
    ((s.setJob j r).enqueue j).setJob j { q with blocked := false } = (s.setJob j q).enqueue j := by
  have hplace : (fun k => precedes s.timeBase r ((s.setJob j r).job k) j k) =
      fun k => precedes s.timeBase q ((s.setJob j q).job k) j k := by
    funext k
    simp only [State.setJob_job]
    split
    · exact (precedes_congr _ j k hq hq).symm
    · exact (precedes_congr _ j k hq ⟨rfl, rfl, rfl, rfl⟩).symm
  simp only [State.enqueue, State.setJob_job_same, State.setJob_timeBase, hplace]
  simp [State.setJob]

@[simp] theorem State.emit_job (s : State) (h : HostId) (i : Option JobId) (f : Option FrameId) (b : EventBody)
    (j : JobId) : (s.emit h i f b).job j = s.job j := rfl

theorem State.emit_setJob (s : State) (h : HostId) (i : Option JobId) (f : Option FrameId) (b : EventBody)
    (j : JobId) (r : Job) : (s.emit h i f b).setJob j r = (s.setJob j r).emit h i f b := rfl

theorem State.latePending_of_keep (late : State → State) {s : State} {j : JobId} (hp : (s.job j).late = .keep) :
    s.latePending late j = (s.reportLate j).setJob j { (s.reportLate j).job j with deadlineMissed := true } := by
  unfold State.latePending
  rw [hp]

theorem State.latePending_of_drop (late : State → State) {s : State} {j : JobId} (hp : (s.job j).late = .drop) :
    s.latePending late j = (s.reportLate j).dropPending late j := by
  unfold State.latePending
  rw [hp]

/-- KEEP of a deadline that expires at an entry into PENDING (R46). -/
theorem State.latePending_keep (late : State → State) {s : State} {j : JobId} {r : Job} (hs : r.state = .pending)
    (hp : r.late = .keep) :
    ((s.setJob j r).enqueue j).latePending late j = State.enqueue { s with
      jobs := s.jobs.put j { r with deadlineTimer := none, deadlineMissed := true }
      events := s.events.put r.owner ((s.events.get r.owner).push
        ⟨s.timeBase, some j, r.fillFrame, .deadlineMissed (r.runNumber + 1) r.late .pending⟩) } j := by
  have hkeep := State.setJob_enqueue (s := s) (j := j) (r := r)
    (q := { r with deadlineTimer := none, deadlineMissed := true }) ⟨rfl, rfl, rfl, rfl⟩
  rw [State.latePending_of_keep late (by simpa using hp)]
  simp only [State.reportLate, State.enqueue_job_same, State.setJob_job_same, State.emit_job, State.emit_setJob,
    State.setJob_setJob, Job.reportedRun, hs, if_true]
  simp only [hs] at hkeep
  rw [hkeep]
  rfl

/-- DROP of a deadline that expires at an entry into PENDING: the run ends counted in its turn (R16, R46). -/
theorem State.latePending_drop (late : State → State) {s : State} {j : JobId} {r : Job} (hs : r.state = .pending)
    (hl : r.latch = none) (hm : r.missed = 0) (hj : j ∉ s.queue) (hp : r.late = .drop) :
    let dropped : Job := { r with runNumber := r.runNumber + 1, deadlineTimer := none, blocked := false }
    let told := (s.events.get r.owner).push
      ⟨s.timeBase, some j, r.fillFrame, .deadlineMissed (r.runNumber + 1) r.late .pending⟩
    ((s.setJob j r).enqueue j).latePending late j = { s with
      jobs := s.jobs.put j dropped.ended
      events := s.events.put r.owner (if dropped.endState = .done then
        told.push ⟨s.timeBase, some j, none, .jobDone dropped.runNumber 0⟩ else told) } := by
  intro dropped told
  have hmissed : dropped.ended.missed = 0 := by simp [dropped, Job.ended, hl, hm]
  have hleft : (((s.setJob j r).enqueue j).reportLate j).dropPending late j = State.endCounted late { s with
      queue := s.queue, jobs := s.jobs.put j dropped, events := s.events.put dropped.owner told } j := by
    unfold State.dropPending
    refine congrArg (State.endCounted late · j) (State.Bookkept.eq (s := s) ?_ (s.bookkept_of_tables ..) ?_ ?_ ?_)
    · exact ((((s.setJob_bookkept j r).trans (State.enqueue_bookkept _ j)).trans (State.reportLate_bookkept _ j)).trans
        (State.dequeue_bookkept _ j)).trans (State.setJob_bookkept _ j _)
    · simp [State.reportLate, dropped]
    · rw [State.setJob_queue, State.dequeue_queue, State.reportLate_queue]
      exact erase_placeInQueue hj
    · simp [State.reportLate, State.emit, dropped, told, Job.reportedRun, hs]
  rw [State.latePending_of_drop late (by simpa using hp), hleft, State.endCounted_put late s j dropped _ told (.inr hl),
    hmissed]

/-- An entry into PENDING with its deadline's expiry at once is what `State.entering` says (R6, R44, R46, log 9). -/
theorem State.expireAtOnce_enqueue {s : State} {j : JobId} {r : Job} (hs : r.state = .pending) (hl : r.latch = none)
    (hm : r.missed = 0) (hj : j ∉ s.queue) : ((s.setJob j r).enqueue j).expireAtOnce j = s.entering j r := by
  have hpassed : ((s.setJob j r).enqueue j).passedAtOnce j =
      r.deadline.any fun d => decide (d ≤ (s.timeBase - r.triggerTime).toNat) := by
    unfold State.passedAtOnce
    rw [State.enqueue_job_same, State.setJob_job_same]
    cases r.deadline <;> rfl
  unfold State.expireAtOnce State.entering
  rw [hpassed]
  split
  · dsimp only
    split
    · exact State.latePending_keep _ hs ‹_›
    · exact State.latePending_drop _ hs hl hm hj ‹_›
  · rfl

/-- A counted run end that consumes no latch (R14). -/
theorem State.endRun_of_no_latch {s : State} {j : JobId} (hl : (s.job j).endState ≠ .armed ∨ (s.job j).latch = none) :
    s.endRun j = { s with
      jobs := s.jobs.put j (s.job j).ended
      events := if (s.job j).endState = .done then s.events.put (s.job j).owner ((s.events.get (s.job j).owner).push
          ⟨s.timeBase, some j, none, .jobDone (s.job j).runNumber (s.job j).ended.missed⟩)
        else s.events } := State.endCounted_of_no_latch _ hl

/-- A counted run end that consumes its latch (R15). -/
theorem State.endRun_of_latch {s : State} {j : JobId} {stamp : Time} (ha : (s.job j).endState = .armed)
    (hl : (s.job j).latch = some stamp) :
    s.endRun j = ((s.setJob j ((s.job j).ended.triggered stamp none)).enqueue j).expireAtOnce j :=
  State.endCounted_of_latch _ ha hl

theorem State.expireAtOnce_of_not_passed {s : State} {j : JobId}
    (hp : ¬ (s.job j).PastDeadline (s.job j).triggerTime s.timeBase) : s.expireAtOnce j = s :=
  if_neg fun h => hp ((s.passedAtOnce_iff j).1 h)

theorem State.expireAtOnce_of_passed {s : State} {j : JobId}
    (hp : (s.job j).PastDeadline (s.job j).triggerTime s.timeBase) : s.expireAtOnce j = s.latePending id j :=
  if_pos ((s.passedAtOnce_iff j).2 hp)

/-- Settles O37: with no latch to consume by `State.endRun_of_no_latch`; otherwise the new run enters PENDING, and a
deadline that has passed is handled by `State.latePending_keep` and `State.latePending_drop`. -/
theorem countedRunEndFollowsTheMode : Obligations.CountedRunEndFollowsTheMode := by
  intro s j
  refine ⟨fun hl => State.endRun_of_no_latch hl, fun stamp ha hl => ?_⟩
  dsimp only
  have hend := State.endRun_of_latch ha hl
  generalize hnext : (s.job j).ended.triggered stamp none = next at hend
  have hentered : ((s.setJob j next).enqueue j).job j = { next with blocked := false } := by simp
  have hpassed : (((s.setJob j next).enqueue j).job j).PastDeadline (((s.setJob j next).enqueue j).job j).triggerTime
      ((s.setJob j next).enqueue j).timeBase ↔ (s.job j).PastDeadline stamp s.timeBase := by
    rw [hentered, ← hnext]
    rfl
  refine ⟨fun hn => ?_, fun hp hj => ⟨fun hk => ?_, fun hd => ?_⟩⟩
  · rw [hend, State.expireAtOnce_of_not_passed fun h => hn (hpassed.1 h)]
  · rw [hend, State.expireAtOnce_of_passed (hpassed.2 hp), State.latePending_keep id (by rw [← hnext]; rfl)
      (by rw [← hnext]; exact hk), ← hnext]
    rfl
  · rw [hend, State.expireAtOnce_of_passed (hpassed.2 hp), State.latePending_drop id (by rw [← hnext]; rfl)
      (by rw [← hnext]; rfl) (by rw [← hnext]; rfl) hj (by rw [← hnext]; exact hd), ← hnext]
    rfl

end Sys2Proof.Machine

namespace Sys2Proof.Machine

/-! ## Arrivals and displacement (R30, R38, R39, R41) -/

theorem Engine.free_iff (e : Engine) : e.free = true ↔ e.state = .idle ∨ e.state = .fault := by
  simp [Engine.free]

theorem State.arrival_of_free {s : State} (hf : s.engine.free = true) : s.arrival = s.freeDecision := if_pos hf

theorem State.arrival_of_taken {s : State} (hf : s.engine.free = false) : s.arrival = s := if_neg (by simp [hf])

theorem State.settlingRoutine_eq_some_iff (s : State) (k : JobId) : s.settlingRoutine = some k ↔
    s.engine.state = .settling ∧ s.engine.settlingJob = some k ∧ (s.job k).cls = .routine := by
  unfold State.settlingRoutine
  split <;> simp_all [Option.filter_eq_some_iff]

theorem State.settlingRoutine_of_not_settling {s : State} (hs : s.engine.state ≠ .settling) :
    s.settlingRoutine = none := if_neg hs

/-- The displacement of R38 and R39, written as one change of job table, queue and engine before the decision. -/
theorem State.displace_of_settlingRoutine {s : State} {k : JobId} (hk : s.settlingRoutine = some k) :
    s.displace = State.freeDecision { ((s.setJob k { s.job k with
        state := .preempted, preemptCount := min 255 ((s.job k).preemptCount + 1) }).enqueue k) with
      engine := s.engine.released } := by
  unfold State.displace
  rw [hk]
  rfl

/-- Settles O36. -/
theorem arrivalsDecideOrDisplace : Obligations.ArrivalsDecideOrDisplace := by
  intro s
  refine ⟨fun hs => State.arrival_of_free ((Engine.free_iff _).2 hs), fun hi hf => State.arrival_of_taken ?_,
    fun k hs hk => ⟨fun hc => ?_, fun hc => ?_⟩, fun hs => ?_⟩
  · rw [Bool.eq_false_iff, ne_eq, Engine.free_iff]
    exact fun h => h.elim hi hf
  · have hroutine := (s.settlingRoutine_eq_some_iff k).2 ⟨hs, hk, hc⟩
    have hstay : s.arrival = s := State.arrival_of_taken (by simp [Engine.free, hs])
    refine ⟨?_, ?_, ?_⟩
    · simp [State.entryArrival, hroutine, State.displace_of_settlingRoutine hroutine]
    · simp [State.entryArrival, hstay]
    · simp [State.intervalArrival, hroutine, State.displace_of_settlingRoutine hroutine, hstay, Engine.overdue]
  · have hnone : s.settlingRoutine = none := by
      unfold State.settlingRoutine
      simp [hs, hk, hc]
    have hstay : s.arrival = s := State.arrival_of_taken (by simp [Engine.free, hs])
    simp [State.entryArrival, State.intervalArrival, hnone, hstay]
  · simp [State.entryArrival, State.intervalArrival, State.settlingRoutine_of_not_settling hs]

end Sys2Proof.Machine

namespace Sys2Proof.Machine

/-! ## The blocked indications (R27, R29) -/

/-- What setting every blocked indication of a list of entries makes of the job table. -/
theorem State.foldl_setBlocked_job (held : JobId → Bool) (l : List JobId) (s : State) (k : JobId) :
    (l.foldl (fun t j => t.setJob j { t.job j with blocked := held j }) s).job k =
      if k ∈ l then { s.job k with blocked := held k } else s.job k := by
  induction l generalizing s with
  | nil => simp
  | cons j l ih =>
    rw [List.foldl_cons, ih, State.setJob_job]
    by_cases hkj : k = j
    · subst hkj
      simp
    · simp [hkj]

theorem State.foldl_setBlocked_kept (held : JobId → Bool) (l : List JobId) (s : State) :
    (l.foldl (fun t j => t.setJob j { t.job j with blocked := held j }) s).queue = s.queue ∧
    (l.foldl (fun t j => t.setJob j { t.job j with blocked := held j }) s).events = s.events := by
  induction l generalizing s with
  | nil => exact ⟨rfl, rfl⟩
  | cons j l ih => exact ih _

theorem State.refreshBlocked_job (s : State) (k : JobId) :
    s.refreshBlocked.job k = if k ∈ s.queue then { s.job k with blocked := s.heldBack k } else s.job k :=
  State.foldl_setBlocked_job s.heldBack s.queue s k

@[simp] theorem State.refreshBlocked_queue (s : State) : s.refreshBlocked.queue = s.queue :=
  (State.foldl_setBlocked_kept s.heldBack s.queue s).1

@[simp] theorem State.refreshBlocked_events (s : State) : s.refreshBlocked.events = s.events :=
  (State.foldl_setBlocked_kept s.heldBack s.queue s).2

/-- The blocked indications are all that a refresh changes (R29). -/
theorem State.refreshBlocked_eq (s : State) : s.refreshBlocked = { s with jobs := s.refreshBlocked.jobs } :=
  s.refreshBlocked_bookkept.eq (s.bookkept_of_tables ..) rfl s.refreshBlocked_queue s.refreshBlocked_events

/-- Whether a hold keeps an entry back depends on the groups, the sequence, and class, owner and state of the job. -/
theorem State.heldBack_congr {s t : State} {j : JobId} (hg : t.groups = s.groups) (hq : t.seqs = s.seqs)
    (hj : (t.job j).cls = (s.job j).cls ∧ (t.job j).owner = (s.job j).owner ∧ (t.job j).state = (s.job j).state ∧
      (t.job j).seq = (s.job j).seq) : t.heldBack j = s.heldBack j := by
  obtain ⟨hc, ho, hs, hk⟩ := hj
  simp only [State.heldBack, State.groupsOf, State.seqOf, hg, hq, hc, ho, hs, hk]

theorem State.refreshBlocked_heldBack (s : State) (k : JobId) : s.refreshBlocked.heldBack k = s.heldBack k := by
  refine State.heldBack_congr s.refreshBlocked_bookkept.groups s.refreshBlocked_bookkept.decided.seqs ?_
  rw [s.refreshBlocked_job]
  split
  · exact ⟨rfl, rfl, rfl, rfl⟩
  · exact ⟨rfl, rfl, rfl, rfl⟩

/-! ## Selection (R31 to R34) -/

theorem State.firstEligible_of {s : State} {before rest : List JobId} {j : JobId}
    (hf : s.FirstEligible before j rest) : s.firstEligible = some j := by
  obtain ⟨hqueue, hbefore, hj⟩ := hf
  have hnone : before.find? (fun k => !s.heldBack k) = none := by simpa using hbefore
  simp [State.firstEligible, hqueue, hnone, hj]

/-- The queue that an eligible entry leaves. -/
theorem State.erase_firstEligible {s : State} {before rest : List JobId} {j : JobId}
    (hf : s.FirstEligible before j rest) : s.queue.erase j = before ++ rest := by
  obtain ⟨hqueue, hbefore, hj⟩ := hf
  have hnot : j ∉ before := fun h => by simp [hbefore j h] at hj
  rw [hqueue, List.append_assoc, List.erase_append_right _ hnot]
  simp

theorem State.FirstEligible.mem {s : State} {before rest : List JobId} {j : JobId}
    (hf : s.FirstEligible before j rest) : j ∈ s.queue := by
  rw [hf.1]
  simp

theorem State.firstEligible_eq_none_iff (s : State) :
    s.firstEligible = none ↔ ∀ k ∈ s.queue, s.heldBack k = true := by
  simp [State.firstEligible]

/-- Selection finds nothing when no entry is eligible (R34). -/
theorem State.select_of_none {s : State} (hn : ∀ k ∈ s.queue, s.heldBack k = true) : s.select = s := by
  unfold State.select State.selectFrom
  rw [(State.firstEligible_eq_none_iff s).2 hn]

/-- The free decision of a converter that is free for jobs is a selection (R31, R32). -/
theorem State.freeDecision_of_freeForJobs {s : State} (hf : s.FreeForJobs) :
    s.freeDecision = (State.refreshBlocked { s with decisionDue := false }).select := by
  obtain ⟨hidle, hcount, hrequests⟩ := hf
  have hengine : (State.refreshBlocked { s with decisionDue := false }).engine = s.engine :=
    (State.refreshBlocked_bookkept _).engine
  have hnone : (s.engine.due || s.engine.requested) = false := by
    simp [Engine.due, Engine.requested, someHost, hrequests, hcount]
  unfold State.freeDecision
  simp only [hidle, hengine, hnone, Bool.false_eq_true, if_false]

/-- A refused run's end, in the words of R8. -/
theorem State.refuseRun_eq (s : State) (j : JobId) :
    s.refuseRun j = State.endRun { s with
      queue := s.queue.erase j
      jobs := s.jobs.put j { s.job j with runNumber := (s.job j).runNumber + 1, deadlineTimer := none, blocked := false }
      events := s.events.put (s.job j).owner ((s.events.get (s.job j).owner).push
        ⟨s.timeBase, some j, none, .frameOverrun ((s.job j).runNumber + 1) (s.job j).overflow⟩) } j := by
  refine congrArg (State.endRun · j) (State.Bookkept.eq (s := s) ?_ (s.bookkept_of_tables ..) ?_ ?_ ?_)
  · exact ((s.dequeue_bookkept j).trans (State.setJob_bookkept ..)).trans (State.emit_bookkept ..)
  · simp
  · rfl
  · simp [State.emit]

/-! ### The bound of a selection is never used up (R33) -/

/-- The entries of the queue and the latches: each refusal takes one of them. -/
def State.selectable (s : State) : Nat := s.queue.length + allJobs.countP fun k => (s.job k).latch.isSome

/-- A count over the job table, with one record taken out. -/
theorem countP_allJobs (p : JobId → Bool) (j : JobId) :
    allJobs.countP p = (allJobs.erase j).countP p + if p j then 1 else 0 := by
  rw [(List.perm_cons_erase (mem_allJobs j)).countP_eq, List.countP_cons]

theorem countP_erase_congr {p q : JobId → Bool} {j : JobId} (h : ∀ k, k ≠ j → p k = q k) :
    (allJobs.erase j).countP p = (allJobs.erase j).countP q := by
  refine List.countP_congr fun k hk => ?_
  have hne : k ≠ j := ((List.Nodup.mem_erase_iff (by decide)).1 hk).1
  rw [h k hne]

/-- A deadline that expires at once takes no entry of another job, and leaves no latch. -/
theorem State.expireAtOnce_cases {s : State} {j : JobId} (hl : (s.job j).latch = none) :
    (s.expireAtOnce j).queue.length ≤ s.queue.length ∧ (∀ k, k ≠ j → (s.expireAtOnce j).job k = s.job k) ∧
    ((s.expireAtOnce j).job j).latch = none := by
  by_cases hp : (s.job j).PastDeadline (s.job j).triggerTime s.timeBase
  · rw [State.expireAtOnce_of_passed hp]
    cases hlate : (s.job j).late
    · rw [State.latePending_of_keep id hlate]
      refine ⟨Nat.le_refl _, fun k hk => ?_, ?_⟩
      · simp [State.setJob_job, hk, State.reportLate]
      · simp [hl, State.reportLate]
    · rw [State.latePending_of_drop id hlate]
      unfold State.dropPending
      rw [State.endCounted_of_no_latch id (by simp [State.reportLate, hl])]
      refine ⟨?_, fun k hk => ?_, ?_⟩
      · simpa using List.length_erase_le
      · simp [State.job, Table.at_put_of_ne _ _ hk, State.reportLate]
      · simp [State.job, Job.ended]
  · rw [State.expireAtOnce_of_not_passed hp]
    exact ⟨Nat.le_refl _, fun _ _ => rfl, hl⟩

/-- A counted run end consumes a latch for each entry it makes (R15). -/
theorem State.endRun_selectable (s : State) (j : JobId) : (s.endRun j).selectable ≤ s.selectable := by
  unfold State.selectable
  rw [countP_allJobs _ j, countP_allJobs (fun k => (s.job k).latch.isSome) j]
  by_cases hl : (s.job j).endState ≠ .armed ∨ (s.job j).latch = none
  · rw [State.endRun_of_no_latch hl, countP_erase_congr (q := fun k => (s.job k).latch.isSome)]
    · simp [State.job, Job.ended]
    · intro k hk
      simp [State.job, Table.at_put_of_ne _ _ hk]
  · obtain ⟨ha, hs⟩ := not_or.1 hl
    obtain ⟨stamp, hstamp⟩ := Option.ne_none_iff_exists'.1 hs
    rw [State.endRun_of_latch (not_not.1 ha) hstamp]
    obtain ⟨hqueue, hothers, hlatch⟩ := State.expireAtOnce_cases
      (s := (s.setJob j ((s.job j).ended.triggered stamp none)).enqueue j) (j := j) (by simp [Job.triggered])
    have hlength : ((s.setJob j ((s.job j).ended.triggered stamp none)).enqueue j).queue.length =
        s.queue.length + 1 := (placeInQueue_perm _ j s.queue).length_eq
    rw [countP_erase_congr (q := fun k => (s.job k).latch.isSome), hlatch, hstamp]
    · simp only [Option.isSome_none, Option.isSome_some, Bool.false_eq_true, if_true, if_false]
      omega
    · intro k hk
      rw [hothers k hk]
      simp [State.job, Table.at_put_of_ne _ _ hk]

/-- Each refusal takes an entry from the queue or a latch from a job (R33). -/
theorem State.refuseRun_selectable {s : State} {j : JobId} (hj : j ∈ s.queue) :
    (s.refuseRun j).selectable < s.selectable := by
  have hpos := List.length_pos_of_mem hj
  rw [State.refuseRun_eq]
  refine Nat.lt_of_le_of_lt (State.endRun_selectable _ j) ?_
  have hlatches (k : JobId) : ((s.jobs.put j { s.job j with
      runNumber := (s.job j).runNumber + 1, deadlineTimer := none, blocked := false }).at k).latch = (s.job k).latch := by
    rw [Table.at_put]
    split
    · subst k
      rfl
    · rfl
  simp only [State.selectable, State.job, List.length_erase_of_mem hj] at hlatches ⊢
  simp only [hlatches]
  omega

/-- The bound plays no part once it exceeds what can be selected. -/
theorem State.selectFrom_eq_of_lt {n m : Nat} {s : State} (hn : s.selectable < n) (hm : s.selectable < m) :
    State.selectFrom n s = State.selectFrom m s := by
  induction n generalizing m s with
  | zero => omega
  | succ n ih =>
    obtain ⟨m, rfl⟩ : ∃ k, m = k + 1 := ⟨m - 1, by omega⟩
    unfold State.selectFrom
    split
    · rfl
    · rename_i j hj
      have hless := State.refuseRun_selectable (List.mem_of_find?_eq_some hj)
      rw [ih (s := s.refuseRun j) (m := m) (by omega) (by omega)]

theorem State.selectable_lt_bound (s : State) : s.selectable < s.queue.length + allJobs.length + 1 := by
  have := allJobs.countP_le_length (p := fun k => (s.job k).latch.isSome)
  unfold State.selectable
  omega

section FirstEligible
variable {s : State} {j : JobId} (hj : s.firstEligible = some j)
include hj

/-- A selected PREEMPTED job continues its run (R12, R32). -/
theorem State.select_of_preempted (hs : (s.job j).state = .preempted) : s.select = s.resumeRun j := by
  unfold State.select State.selectFrom
  simp only [hj, hs, if_true]

/-- A selected PENDING job starts its run with the frame at the head of the pool (R58). -/
theorem State.select_of_fromPool {f : FrameId} {rest : List FrameId} (hs : (s.job j).state ≠ .preempted)
    (ha : s.allocation j = .fromPool f rest) : s.select = (s.takeFrame j f rest).startRun j f := by
  unfold State.select State.selectFrom
  simp only [hj, hs, if_false, ha]

/-- A selected PENDING job starts its run with a reclaimed frame (R60). -/
theorem State.select_of_reclaim {f : FrameId} {rest : List FrameId} (hs : (s.job j).state ≠ .preempted)
    (ha : s.allocation j = .reclaim f rest) : s.select = (s.reclaimFrame j f rest).startRun j f := by
  unfold State.select State.selectFrom
  simp only [hj, hs, if_false, ha]

/-- After a refusal selection begins again (R33). -/
theorem State.select_of_refused (hs : (s.job j).state ≠ .preempted) (ha : s.allocation j = .refused) :
    s.select = (s.refuseRun j).select := by
  have hless := State.refuseRun_selectable (List.mem_of_find?_eq_some hj)
  have hbound := s.selectable_lt_bound
  have hrest : State.selectFrom (s.queue.length + allJobs.length) (s.refuseRun j) = (s.refuseRun j).select :=
    State.selectFrom_eq_of_lt (by omega) (State.selectable_lt_bound _)
  rw [← hrest]
  unfold State.select
  rw [State.selectFrom]
  simp only [hj, hs, if_false, ha]

end FirstEligible

/-! ## Refused frames (R8, R33, R59) -/

theorem State.allocation_refused {s : State} {j : JobId}
    (ha : s.allowance.get (s.job j).owner ≤ s.inUse.get (s.job j).owner)
    (ho : (s.job j).overflow = .refuse ∨ s.delivery.get (s.job j).owner = []) : s.allocation j = .refused := by
  unfold State.allocation
  rw [if_neg (by omega)]
  rcases ho with ho | ho
  · simp [ho]
  · rw [ho]
    cases (s.job j).overflow <;> rfl

/-- A selection whose first eligible entry is refused its frame (R8, R33, R59). -/
theorem State.select_of_refusal {s : State} {j : JobId} {before rest : List JobId} (hf : s.FirstEligible before j rest)
    (hs : (s.job j).state = .pending) (ha : s.allowance.get (s.job j).owner ≤ s.inUse.get (s.job j).owner)
    (ho : (s.job j).overflow = .refuse ∨ s.delivery.get (s.job j).owner = []) :
    s.select = State.select (State.endRun { s with
      queue := before ++ rest
      jobs := s.jobs.put j { s.job j with runNumber := (s.job j).runNumber + 1, deadlineTimer := none, blocked := false }
      events := s.events.put (s.job j).owner ((s.events.get (s.job j).owner).push
        ⟨s.timeBase, some j, none, .frameOverrun ((s.job j).runNumber + 1) (s.job j).overflow⟩) } j) := by
  rw [State.select_of_refused (State.firstEligible_of hf) (by simp [hs]) (State.allocation_refused ha ho),
    State.refuseRun_eq, State.erase_firstEligible hf]

/-- The record of a run end at DONE with no latch to discard. -/
theorem Job.ended_of_done {r : Job} (he : r.endState = .done) (hd : r.disarmPending = false) (hl : r.latch = none) :
    r.ended = { r with state := .done, runsRemaining := r.runsAfter, stopReason := none, periodTimer := none } := by
  simp [Job.ended, he, hd, hl]

/-- The record of a run end at ARMED with no latch to consume. -/
theorem Job.ended_of_going {r : Job} (he : r.endState = .armed) (hd : r.disarmPending = false) (hl : r.latch = none) :
    r.ended = { r with state := .armed, runsRemaining := r.runsAfter, stopReason := none } := by
  simp [Job.ended, he, hd, hl]

/-- The decision over a queue of one eligible entry whose run is refused its frame and holds no latch. -/
theorem State.freeDecision_of_only_refusal {s : State} {j : JobId} (hf : s.FreeForJobs) (hq : s.queue = [j])
    (hb : s.heldBack j = false) (hs : (s.job j).state = .pending) (hl : (s.job j).latch = none)
    (ha : s.allowance.get (s.job j).owner ≤ s.inUse.get (s.job j).owner)
    (ho : (s.job j).overflow = .refuse ∨ s.delivery.get (s.job j).owner = []) :
    let refused : Job := { s.job j with runNumber := (s.job j).runNumber + 1, deadlineTimer := none, blocked := false }
    let told := (s.events.get (s.job j).owner).push
      ⟨s.timeBase, some j, none, .frameOverrun ((s.job j).runNumber + 1) (s.job j).overflow⟩
    s.freeDecision = { s with
      queue := [], decisionDue := false, jobs := s.jobs.put j refused.ended
      events := s.events.put (s.job j).owner (if refused.endState = .done then
        told.push ⟨s.timeBase, some j, none, .jobDone refused.runNumber refused.ended.missed⟩ else told) } := by
  intro refused told
  obtain ⟨t, ht, heq⟩ : ∃ t, State.refreshBlocked { s with decisionDue := false } = t ∧
      t = { s with decisionDue := false, jobs := s.jobs.put j { s.job j with blocked := s.heldBack j } } := by
    refine ⟨_, rfl, ?_⟩
    unfold State.refreshBlocked
    rw [show ({ s with decisionDue := false } : State).queue = [j] from hq]
    rfl
  have hjob : t.job j = { s.job j with blocked := s.heldBack j } := by
    rw [heq]
    exact Table.at_put_same ..
  have hheld : t.heldBack j = s.heldBack j :=
    State.heldBack_congr (by rw [heq]) (by rw [heq]) (by rw [hjob]; exact ⟨rfl, rfl, rfl, rfl⟩)
  have hfirst : t.FirstEligible [] j [] := ⟨by rw [heq]; exact hq, by simp, hheld.trans hb⟩
  have hend : State.endRun { t with
      queue := [], jobs := t.jobs.put j refused, events := t.events.put refused.owner told } j = _ :=
    State.endCounted_put _ t j refused [] told (.inr hl)
  rw [State.freeDecision_of_freeForJobs hf, ht, State.select_of_refusal hfirst (by rw [hjob]; exact hs)
    (by rw [hjob, heq]; exact ha) (by rw [hjob, heq]; exact ho)]
  refine Eq.trans (congrArg State.select (Eq.trans ?_ (hend.trans ?_))) (State.select_of_none (by simp))
  · simp only [hjob, List.nil_append]
    rw [heq]
  · rw [heq]
    simp only [Table.put_put]
    rfl

/-- Settles O34: the one entry by `State.freeDecision_of_only_refusal`, the step of a selection by
`State.select_of_refusal`. -/
theorem refusedFrameEndsTheRun : Obligations.RefusedFrameEndsTheRun := by
  refine ⟨fun s j => ?_, fun s hf => State.freeDecision_of_freeForJobs hf, fun s hn => State.select_of_none hn,
    fun s j before rest hf hs ha ho => State.select_of_refusal hf hs ha ho⟩
  intro r hf hq hb hs hd hl ha ho run told left
  have hleft : left = (s.job j).runsAfter := by
    simp only [left, r, Job.runsAfter]
    cases (s.job j).repeatMode <;> rfl
  have hdecision := State.freeDecision_of_only_refusal hf hq hb hs hl ha ho
  generalize hrefused : ({ s.job j with
    runNumber := (s.job j).runNumber + 1, deadlineTimer := none, blocked := false } : Job) = refused at hdecision
  have hstate : refused.endState = (s.job j).endState := by rw [← hrefused]; rfl
  have hlatch : refused.latch = none := by rw [← hrefused]; exact hl
  have hdisarm : refused.disarmPending = false := by rw [← hrefused]; exact hd
  refine ⟨fun hm => ?_, fun hm => ?_⟩
  · have hend : refused.endState = .done := by
      rw [hstate, Job.endState]
      rcases hm with hm | ⟨⟨n, hm⟩, h0⟩
      · rw [show (s.job j).repeatMode = .oneShot from hm]
      · simp only [left, r, hm] at h0 ⊢
        simp [h0]
    rw [hdecision, if_pos hend, Job.ended_of_done hend hdisarm hlatch, ← hrefused, hleft]
    rfl
  · have hend : refused.endState = .armed := by
      rw [hstate, Job.endState]
      rcases hm with hm | ⟨⟨n, hm⟩, h0⟩
      · simp [show (s.job j).repeatMode = .continuous from hm, show (s.job j).disarmPending = false from hd]
      · simp only [left, r, hm] at h0 ⊢
        simp [h0, show (s.job j).disarmPending = false from hd]
    rw [hdecision, if_neg (by simp [hend]), Job.ended_of_going hend hdisarm hlatch, ← hrefused, hleft]
    rfl

end Sys2Proof.Machine

namespace Sys2Proof.Machine

/-! ## Giving the converter to a job (R7, R9, R12, R109) -/

/-- A step that exists is started (R109). -/
theorem State.startStep_eq {s : State} {j : JobId} {x : SeqStep}
    (hx : (s.seqOf j).steps[(s.job j).nextStep]? = some x) :
    s.startStep j = { s with engine := s.engine.starting j (s.job j).nextStep x s.timeBase } := by
  unfold State.startStep
  rw [hx]
  rfl

/-- A job enters RUNNING with its step started. -/
theorem State.run_eq {s : State} {j : JobId} {x : SeqStep} (hx : (s.seqOf j).steps[(s.job j).nextStep]? = some x) :
    s.run j = { s with
      jobs := s.jobs.put j { s.job j with state := .running }
      engine := s.engine.starting j (s.job j).nextStep x s.timeBase } := by
  unfold State.run
  rw [State.startStep_eq (x := x) (by simpa [State.seqOf] using hx), State.setJob_job_same]
  rfl

/-- A selected job enters RUNNING with its step started, or SETTLING (R7, R12, R113). -/
theorem State.giveConverter_eq {s : State} {j : JobId} {x : SeqStep}
    (hx : (s.seqOf j).steps[(s.job j).nextStep]? = some x) :
    let settled := (s.seqOf j).minimum.rank ≤ s.exc.settled.rank
    s.giveConverter j = { s with
      jobs := s.jobs.put j { s.job j with state := if settled then .running else .settling }
      engine := if settled then s.engine.starting j (s.job j).nextStep x s.timeBase else s.engine.settlingFor j } := by
  unfold State.giveConverter State.settledFor
  by_cases hs : (s.seqOf j).minimum.rank ≤ s.exc.settled.rank
  · simp only [hs, decide_true, if_true, State.run_eq hx]
  · simp only [hs, decide_false, if_false, Bool.false_eq_true]
    rfl

/-! ## A PREEMPTED job continues (R12, R63) -/

/-- Where a job that continues its run takes it up (R12). -/
def Job.resumeIndex (r : Job) : Nat :=
  match r.resume with
  | .resume => r.nextStep
  | .restart => 0

/-- The continued run before it gets the converter (R12, R63). -/
theorem State.resumeRun_eq_giveConverter {s : State} {j : JobId} {f : FrameId} (hf : (s.job j).fillFrame = some f) :
    s.resumeRun j = State.giveConverter { s with
      queue := s.queue.erase j
      frames := if (s.job j).resume = .restart then s.frames.put f (s.frames.at f).restart else s.frames
      jobs := s.jobs.put j { s.job j with nextStep := (s.job j).resumeIndex, blocked := false } } j := by
  unfold State.resumeRun Job.resumeIndex
  cases hr : (s.job j).resume
  · simp only [State.dequeue_job_same, hr, reduceCtorEq, if_false]
    rw [← hr]
    rfl
  · simp only [State.dequeue_job_same, hr, hf, if_true]
    refine congrArg (State.giveConverter · j) ?_
    simp [State.setJob, State.setFrame, State.dequeue, hr, hf]

/-- The continued run, with the frame of a RESTART cleared (R12, R63). -/
theorem State.resumeRun_eq {s : State} {j : JobId} {f : FrameId} {x : SeqStep}
    (hf : (s.job j).fillFrame = some f) (hx : (s.seqOf j).steps[(s.job j).resumeIndex]? = some x) :
    let settled := (s.seqOf j).minimum.rank ≤ s.exc.settled.rank
    s.resumeRun j = { s with
      queue := s.queue.erase j
      frames := if (s.job j).resume = .restart then s.frames.put f (s.frames.at f).restart else s.frames
      engine := if settled then s.engine.starting j (s.job j).resumeIndex x s.timeBase else s.engine.settlingFor j
      jobs := s.jobs.put j { s.job j with
        state := if settled then .running else .settling, nextStep := (s.job j).resumeIndex, blocked := false } } := by
  dsimp only
  rw [State.resumeRun_eq_giveConverter hf]
  generalize hr : ({ s.job j with nextStep := (s.job j).resumeIndex, blocked := false } : Job) = r
  rw [State.giveConverter_eq (x := x) (by simpa [State.seqOf, State.job, ← hr] using hx)]
  simp only [State.seqOf, State.job, Table.at_put_same, Table.put_put, ← hr]
  rfl

/-- What the state looks like in which a free decision selects: the blocked indications alone are new (R29). -/
structure State.Refreshed (s t : State) : Prop where
  eq : t = { s with decisionDue := false, jobs := t.jobs }
  job : ∀ k : JobId, t.job k = if k ∈ s.queue then { s.job k with blocked := s.heldBack k } else s.job k
  heldBack : ∀ k : JobId, t.heldBack k = s.heldBack k

theorem State.refreshed (s : State) : s.Refreshed (State.refreshBlocked { s with decisionDue := false }) :=
  ⟨State.refreshBlocked_eq _, State.refreshBlocked_job _, State.refreshBlocked_heldBack _⟩

theorem State.Refreshed.firstEligible {s t : State} (ht : s.Refreshed t) {before rest : List JobId} {j : JobId}
    (hf : s.FirstEligible before j rest) : t.FirstEligible before j rest := by
  obtain ⟨hqueue, hbefore, hj⟩ := hf
  refine ⟨?_, fun k hk => (ht.heldBack k).trans (hbefore k hk), (ht.heldBack j).trans hj⟩
  rw [ht.eq]
  exact hqueue

theorem State.Refreshed.selected {s t : State} (ht : s.Refreshed t) {j : JobId} (hj : j ∈ s.queue) :
    t.job j = { s.job j with blocked := s.heldBack j } := by
  rw [ht.job, if_pos hj]

/-- Settles O35: the selection by `State.select_of_preempted`, the run by `State.resumeRun_eq`. -/
theorem reselectedRunContinues : Obligations.ReselectedRunContinues := by
  intro s j f x before rest r index settled hfree hfirst hs hfill hx
  have hindex : (s.job j).resumeIndex = index := rfl
  refine ⟨_, rfl, ?_⟩
  rw [State.freeDecision_of_freeForJobs hfree]
  have ht := s.refreshed
  generalize State.refreshBlocked { s with decisionDue := false } = t at ht
  have hjob := ht.selected hfirst.mem
  have hseq : t.seqOf j = s.seqOf j := by
    simp only [State.seqOf, hjob]
    rw [ht.eq]
  have hresume : (t.job j).resumeIndex = index := by
    rw [hjob]
    rfl
  have heq := State.resumeRun_eq (s := t) (j := j) (f := f) (x := x) (by rw [hjob]; exact hfill)
    (by rw [hseq, hresume]; exact hx)
  rw [State.select_of_preempted (State.firstEligible_of (ht.firstEligible hfirst)) (by rw [hjob]; exact hs), heq]
  refine ⟨?_, ?_, fun k hk => ?_⟩
  · simp only [State.erase_firstEligible (ht.firstEligible hfirst), hseq, hjob]
    rw [ht.eq]
    rfl
  · refine (Table.at_put_same ..).trans ?_
    rw [hresume, hjob, hseq, ht.eq]
  · exact (Table.at_put_of_ne _ _ hk).trans (ht.job k)

/-! ## A new run starts (R7, R139, R146) -/

theorem mem_allGroups (g : GroupId) : g ∈ allGroups := by revert g; decide

theorem State.mem_groupsOf {s : State} {j : JobId} {g : GroupId} :
    g ∈ s.groupsOf j ↔ (s.seqOf j).touches g = true := by
  simp [State.groupsOf, mem_allGroups]

/-- Marking one job in the occupant sets of several groups changes those sets alone. -/
theorem State.foldl_markOccupant (j : JobId) (present : Bool) (l : List GroupId) (s : State) :
    l.foldl (fun t g => t.markOccupant j present g) s =
      { s with groups := (l.foldl (fun t g => t.markOccupant j present g) s).groups } ∧
    ∀ g, (l.foldl (fun t g => t.markOccupant j present g) s).groups.at g =
      if g ∈ l then { s.groups.at g with occupants := (s.groups.at g).occupants.put j present } else s.groups.at g := by
  induction l generalizing s with
  | nil => exact ⟨rfl, fun g => by simp⟩
  | cons k l ih =>
    obtain ⟨heq, hgroups⟩ := ih (s.markOccupant j present k)
    refine ⟨heq, fun g => (hgroups g).trans ?_⟩
    simp only [State.markOccupant, State.setGroup, Table.at_put, List.mem_cons]
    by_cases hg : g = k
    · subst hg
      simp
    · simp [hg]

/-- The events of a new run's intrusions, host by host (R146). -/
theorem State.foldl_emit_events (told : GroupId → Prop) [DecidablePred told] (host : GroupId → HostId)
    (e : GroupId → EventBody) (j : JobId) (l : List GroupId) (s : State) :
    l.foldl (fun t g => if told g then t.emit (host g) (some j) none (e g) else t) s = { s with
      events := (l.foldl (fun t g => if told g then t.emit (host g) (some j) none (e g) else t) s).events } ∧
    ∀ h, (l.foldl (fun t g => if told g then t.emit (host g) (some j) none (e g) else t) s).events.get h =
      (l.filter fun g => decide (told g ∧ host g = h)).foldl (fun q g => q.push ⟨s.timeBase, some j, none, e g⟩)
        (s.events.get h) := by
  induction l generalizing s with
  | nil => exact ⟨rfl, fun h => rfl⟩
  | cons k l ih =>
    rw [List.foldl_cons]
    by_cases hk : told k
    · obtain ⟨heq, hevents⟩ := ih (s.emit (host k) (some j) none (e k))
      rw [if_pos hk]
      refine ⟨heq, fun h => (hevents h).trans ?_⟩
      by_cases hh : host k = h
      · simp [hk, hh, State.emit]
      · simp [hk, hh, State.emit, PerHost.get_put_of_ne _ _ (Ne.symm hh)]
    · obtain ⟨heq, hevents⟩ := ih s
      rw [if_neg hk]
      exact ⟨heq, fun h => (hevents h).trans (by simp [hk])⟩

/-- What the Hold Manager makes of a selection for a new run: occupant sets for a ROUTINE job, reports for an URGENT one
(R139, R146). -/
theorem State.tellHolds_cases (s : State) (j : JobId) :
    s.tellHolds j = { s with groups := (s.tellHolds j).groups, events := (s.tellHolds j).events } ∧
    (∀ g, (s.tellHolds j).groups.at g =
      if (s.job j).cls = .routine ∧ (s.seqOf j).touches g = true then
        { s.groups.at g with occupants := (s.groups.at g).occupants.put j true }
      else s.groups.at g) ∧
    (∀ h, (s.tellHolds j).events.get h =
      (allGroups.filter fun g => decide ((s.job j).cls = .urgent ∧ (s.seqOf j).touches g = true ∧
        (s.groups.at g).state = .held ∧ (s.groups.at g).host = h ∧ h ≠ (s.job j).owner)).foldl
          (fun q g => q.push ⟨s.timeBase, some j, none, .holdIntruded g (s.job j).owner (s.job j).runNumber⟩)
          (s.events.get h)) := by
  unfold State.tellHolds
  cases hc : (s.job j).cls
  · obtain ⟨heq, hgroups⟩ := State.foldl_markOccupant j true (s.groupsOf j) s
    have hocc : s.occupy j = (s.groupsOf j).foldl (fun t g => t.markOccupant j true g) s := by
      unfold State.occupy
      rw [hc]
    dsimp only
    rw [hocc]
    refine ⟨?_, fun g => (hgroups g).trans ?_, fun h => ?_⟩
    · rw [show ((s.groupsOf j).foldl (fun t g => t.markOccupant j true g) s).events = s.events by rw [heq]]
      exact heq
    · simp [State.mem_groupsOf]
    · rw [heq]
      simp
  · obtain ⟨heq, hevents⟩ := State.foldl_emit_events
      (fun g => (s.groups.at g).state = .held ∧ (s.groups.at g).host ≠ (s.job j).owner) (fun g => (s.groups.at g).host)
      (fun g => .holdIntruded g (s.job j).owner (s.job j).runNumber) j (s.groupsOf j) s
    dsimp only
    change s.reportIntrusion j (s.job j).runNumber = _ at heq
    change ∀ h, (s.reportIntrusion j (s.job j).runNumber).events.get h = _ at hevents
    refine ⟨?_, fun g => ?_, fun h => (hevents h).trans ?_⟩
    · rw [show (s.reportIntrusion j (s.job j).runNumber).groups = s.groups by rw [heq]]
      exact heq
    · rw [heq]
      simp
    · congr 1
      simp only [State.groupsOf, List.filter_filter]
      refine List.filter_congr fun g _ => ?_
      rw [Bool.eq_iff_iff, Bool.and_eq_true, decide_eq_true_iff, decide_eq_true_iff]
      constructor
      · rintro ⟨⟨⟨hheld, howner⟩, rfl⟩, htouch⟩
        exact ⟨trivial, htouch, hheld, rfl, howner⟩
      · rintro ⟨-, htouch, hheld, rfl, howner⟩
        exact ⟨⟨⟨hheld, howner⟩, rfl⟩, htouch⟩

/-- A new run of a job with this frame: number, queue, claim, holds and converter (R7). -/
theorem State.startRun_cases {s : State} {j : JobId} {x : SeqStep} (f : FrameId)
    (hx : (s.seqOf j).steps.head? = some x) :
    let r := s.job j
    let exc := Excitation.recompute
      { s.exc with transient := s.exc.transient.put j (some (s.seqOf j).minimum) } s.timeBase
    let settled := (s.seqOf j).minimum.rank ≤ exc.settled.rank
    s.startRun j f = { s with
      queue := s.queue.erase j, exc := exc
      engine := if settled then s.engine.starting j 0 x s.timeBase else s.engine.settlingFor j
      jobs := s.jobs.put j { r with
        state := if settled then .running else .settling, runNumber := r.runNumber + 1, fillFrame := some f
        nextStep := 0, preemptCount := 0, blocked := false }
      groups := (s.startRun j f).groups, events := (s.startRun j f).events } ∧
    (∀ g, (s.startRun j f).groups.at g =
      if r.cls = .routine ∧ (s.seqOf j).touches g = true then
        { s.groups.at g with occupants := (s.groups.at g).occupants.put j true }
      else s.groups.at g) ∧
    (∀ h, (s.startRun j f).events.get h =
      (allGroups.filter fun g => decide (r.cls = .urgent ∧ (s.seqOf j).touches g = true ∧
        (s.groups.at g).state = .held ∧ (s.groups.at g).host = h ∧ h ≠ r.owner)).foldl
          (fun q g => q.push ⟨s.timeBase, some j, none, .holdIntruded g r.owner (r.runNumber + 1)⟩)
          (s.events.get h)) := by
  intro r exc settled
  let q : Job := { r with runNumber := r.runNumber + 1, fillFrame := some f, nextStep := 0, preemptCount := 0
                          blocked := false }
  obtain ⟨u, hu⟩ : ∃ u : State, u = { s with queue := s.queue.erase j, jobs := s.jobs.put j q, exc := exc } := ⟨_, rfl⟩
  have hjob : u.job j = q := by
    rw [hu]
    exact Table.at_put_same ..
  have hseq : u.seqOf j = s.seqOf j := by
    rw [State.seqOf, hjob, hu]
    rfl
  have hclaimed : (((s.dequeue j).setJob j { (s.dequeue j).job j with
      runNumber := ((s.dequeue j).job j).runNumber + 1, fillFrame := some f, nextStep := 0, preemptCount := 0 }).placeClaim
      j) = u := by
    rw [hu, State.dequeue_job_same, State.dequeue_setJob]
    simp only [State.placeClaim, State.setTransient, State.seqOf, State.job, Table.at_put_same]
    rfl
  obtain ⟨htold, hgroups, hevents⟩ := u.tellHolds_cases j
  have hjob' : (u.tellHolds j).job j = q := by
    rw [htold]
    exact hjob
  have hseq' : (u.tellHolds j).seqOf j = s.seqOf j := by
    rw [htold]
    exact hseq
  have hexc : (u.tellHolds j).exc = exc := by rw [htold, hu]
  have hengine : (u.tellHolds j).engine = s.engine := by rw [htold, hu]
  have htime : (u.tellHolds j).timeBase = s.timeBase := by rw [htold, hu]
  have hjobs : (u.tellHolds j).jobs = s.jobs.put j q := by rw [htold, hu]
  have hgive := State.giveConverter_eq (s := u.tellHolds j) (j := j) (x := x) (by
    rw [hjob', hseq', ← List.head?_eq_getElem?]
    exact hx)
  have hstart : s.startRun j f = (u.tellHolds j).giveConverter j := by
    unfold State.startRun
    rw [← hclaimed]
  simp only [hjob', hseq', hexc, hengine, htime, hjobs, Table.put_put] at hgive
  rw [hstart, hgive]
  refine ⟨?_, fun g => (hgroups g).trans ?_, fun h => (hevents h).trans ?_⟩
  · dsimp only
    rw [htold, hu]
  · rw [hjob, hseq, hu]
  · rw [hjob, hseq, hu]

/-- The frame of a new run as its header is set (R54). -/
theorem State.newFrame_eq (s : State) (j : JobId) : s.newFrame j =
    ⟨.filling, (s.job j).owner, j, (s.job j).runNumber + 1, (s.job j).triggerTime, false, false, false, 0, 0,
      (s.seqOf j).steps.length, Vector.replicate 16 Sample.empty⟩ := rfl

/-- A selection that gives a PENDING job a frame, from the pool or by reclaim, starts its run over the state with that
frame taken (R58, R60, R61). -/
theorem State.select_starts {s : State} {j : JobId} {f : FrameId} {pool : List FrameId} {inUse : PerHost Nat}
    {delivery : PerHost (List FrameId)} {told : PerHost EventQueue} (hj : s.firstEligible = some j)
    (hs : (s.job j).state = .pending)
    (ha : s.inUse.get (s.job j).owner < s.allowance.get (s.job j).owner ∧ s.pool = f :: pool ∧
        inUse = s.inUse.put (s.job j).owner (s.inUse.get (s.job j).owner + 1) ∧ delivery = s.delivery ∧
        told = s.events ∨
      s.allowance.get (s.job j).owner ≤ s.inUse.get (s.job j).owner ∧ (s.job j).overflow = .reclaim ∧
        pool = s.pool ∧ inUse = s.inUse ∧ s.delivery.get (s.job j).owner = f :: delivery.get (s.job j).owner ∧
        delivery = s.delivery.put (s.job j).owner (delivery.get (s.job j).owner) ∧
        told = s.events.put (s.job j).owner ((s.events.get (s.job j).owner).push
          ⟨s.timeBase, some (s.frames.at f).job, some f,
            .frameReclaimed (s.frames.at f).run j ((s.job j).runNumber + 1)⟩)) :
    s.select = State.startRun { s with
      frames := s.frames.put f (s.newFrame j), pool := pool, inUse := inUse, delivery := delivery
      events := told } j f := by
  have hp : (s.job j).state ≠ .preempted := by simp [hs]
  rcases ha with ⟨hbelow, hpool, rfl, rfl, rfl⟩ | ⟨hat, hover, rfl, rfl, hhead, hrest, htold⟩
  · have halloc : s.allocation j = .fromPool f pool := by
      unfold State.allocation
      rw [if_pos hbelow, hpool]
    rw [State.select_of_fromPool hj hp halloc]
    rfl
  · have halloc : s.allocation j = .reclaim f (delivery.get (s.job j).owner) := by
      unfold State.allocation
      rw [if_neg (Nat.not_lt.2 hat), hover, hhead]
    rw [State.select_of_reclaim hj hp halloc, htold, hrest]
    simp only [PerHost.get_put_same]
    rfl

/-- Settles O33: the selection by `State.select_starts`, the run by `State.startRun_cases`. -/
theorem selectedRunStarts : Obligations.SelectedRunStarts := by
  intro s j f x before rest pool inUse delivery told r run lost hfree hfirst hs hx halloc exc settled
  refine ⟨_, rfl, ?_⟩
  rw [State.freeDecision_of_freeForJobs hfree]
  have ht := s.refreshed
  generalize State.refreshBlocked { s with decisionDue := false } = t at ht
  have hjob := ht.selected hfirst.mem
  have hseq : t.seqOf j = s.seqOf j := by
    simp only [State.seqOf, hjob]
    rw [ht.eq]
  have hselect := State.select_starts (s := t) (f := f) (pool := pool) (inUse := inUse) (delivery := delivery)
    (told := told) (State.firstEligible_of (ht.firstEligible hfirst)) (by rw [hjob]; exact hs)
    (by rw [hjob, ht.eq]; exact halloc)
  obtain ⟨u, hu⟩ : ∃ u : State, u = { t with
      frames := t.frames.put f (t.newFrame j), pool := pool, inUse := inUse, delivery := delivery, events := told } :=
    ⟨_, rfl⟩
  have hframe : t.newFrame j = ⟨.filling, r.owner, j, run, r.triggerTime, false, false, false, 0, 0,
      (s.seqOf j).steps.length, Vector.replicate 16 Sample.empty⟩ := by
    rw [State.newFrame_eq, hseq, hjob]
  have hseq' : u.seqOf j = s.seqOf j := by
    rw [hu]
    exact hseq
  have hjob' : u.job j = { s.job j with blocked := s.heldBack j } := by
    rw [hu]
    exact hjob
  have hexc : u.exc = s.exc := by rw [hu, ht.eq]
  have htime : u.timeBase = s.timeBase := by rw [hu, ht.eq]
  have hengine : u.engine = s.engine := by rw [hu, ht.eq]
  have hqueue : u.queue.erase j = before ++ rest := by
    rw [hu]
    exact State.erase_firstEligible (ht.firstEligible hfirst)
  obtain ⟨heq, hgroups, hevents⟩ := State.startRun_cases (s := u) (j := j) (x := x) f (by rw [hseq']; exact hx)
  simp only [hseq', hjob', hexc, htime, hengine, hqueue] at heq hgroups hevents
  rw [hselect, ← hu]
  refine ⟨?_, ?_, fun k hk => ?_, fun g => (hgroups g).trans ?_, fun h => (hevents h).trans ?_⟩
  · rw [heq, hu, hframe, ht.eq]
  · rw [heq]
    exact Table.at_put_same ..
  · rw [heq]
    refine (Table.at_put_of_ne _ _ hk).trans ?_
    rw [hu]
    exact ht.job k
  · rw [hu, ht.eq]
  · rw [hu, ht.eq]

end Sys2Proof.Machine

namespace Sys2Proof.Machine

/-! ## Leaving the groups (R139, R141) -/

/-- A state in which the Hold Manager has acted: groups, event queues and the count of draws alone may have changed. -/
def State.HoldsActed (s t : State) : Prop :=
  t = { s with groups := t.groups, events := t.events, draws := t.draws }

theorem State.HoldsActed.refl (s : State) : s.HoldsActed s := rfl

theorem State.HoldsActed.trans {s t u : State} (h : s.HoldsActed t) (k : t.HoldsActed u) : s.HoldsActed u := by
  unfold State.HoldsActed at *
  rw [k, h]

theorem State.HoldsActed.foldl {α : Type} {f : State → α → State} (h : ∀ (t : State) (x : α), t.HoldsActed (f t x))
    (l : List α) (s : State) : s.HoldsActed (l.foldl f s) := by
  induction l generalizing s with
  | nil => exact .refl s
  | cons x l ih => exact (h s x).trans (ih (f s x))

section HoldsActed
variable (s : State) (j : JobId)

theorem State.setGroup_holdsActed (g : GroupId) (r : Group) : s.HoldsActed (s.setGroup g r) := rfl

theorem State.emit_holdsActed (h : HostId) (i : Option JobId) (f : Option FrameId) (b : EventBody) :
    s.HoldsActed (s.emit h i f b) := rfl

theorem State.drawnFor_holdsActed {α : Type} (l : List α) : s.HoldsActed (s.drawnFor l) := by
  unfold State.drawnFor
  split
  · exact .refl s
  · exact rfl

theorem State.grant_holdsActed (g : GroupId) : s.HoldsActed (s.grant g) :=
  (s.setGroup_holdsActed ..).trans (State.emit_holdsActed ..)

theorem State.vacate_holdsActed : s.HoldsActed (s.vacate j) := by
  unfold State.vacate
  split
  · exact .refl s
  · exact ((State.HoldsActed.foldl (fun t g => t.setGroup_holdsActed g _) _ s).trans
      (State.drawnFor_holdsActed _ _)).trans (.foldl (fun t g => t.grant_holdsActed g) _ _)

@[simp] theorem State.vacate_jobs : (s.vacate j).jobs = s.jobs := by rw [s.vacate_holdsActed j]
@[simp] theorem State.vacate_job (k : JobId) : (s.vacate j).job k = s.job k := by rw [s.vacate_holdsActed j]; rfl
@[simp] theorem State.vacate_seqs : (s.vacate j).seqs = s.seqs := by rw [s.vacate_holdsActed j]
@[simp] theorem State.vacate_freeSteps : (s.vacate j).freeSteps = s.freeSteps := by rw [s.vacate_holdsActed j]
@[simp] theorem State.vacate_queue : (s.vacate j).queue = s.queue := by rw [s.vacate_holdsActed j]
@[simp] theorem State.vacate_engine : (s.vacate j).engine = s.engine := by rw [s.vacate_holdsActed j]

end HoldsActed

/-! ## A run that holds nothing any more (R16, R17, R18, R23) -/

theorem State.releaseFill_of_some {s : State} {j : JobId} {f : FrameId} (hf : (s.job j).fillFrame = some f) :
    s.releaseFill j = { s with
      jobs := s.jobs.put j { s.job j with fillFrame := none }
      frames := s.frames.put f Frame.free, pool := s.pool ++ [f]
      inUse := s.inUse.put (s.job j).owner (s.inUse.get (s.job j).owner - 1) } := by
  unfold State.releaseFill
  rw [hf]
  rfl

/-- What a run gives back: its frame, its claim, its deadline timer and its groups. -/
theorem State.releaseRun_of_some {s : State} {j : JobId} {f : FrameId} (hf : (s.job j).fillFrame = some f) :
    s.releaseRun j = State.vacate { s with
      jobs := s.jobs.put j { s.job j with fillFrame := none, deadlineTimer := none }
      frames := s.frames.put f Frame.free, pool := s.pool ++ [f]
      inUse := s.inUse.put (s.job j).owner (s.inUse.get (s.job j).owner - 1), exc := s.excWithout j } j := by
  unfold State.releaseRun
  rw [State.releaseFill_of_some hf]
  refine congrArg (State.vacate · j) ?_
  simp [State.removeClaim, State.cancelDeadline, State.setTransient, State.setJob, State.job, State.excWithout]

/-! ## ABORT_JOB (R17) -/

theorem Job.aborted_eq (r : Job) : r.aborted = { r with
    state := if r.disarmPending then .idle else .armed, disarmPending := false, stopReason := none
    periodTimer := if r.disarmPending then none else r.periodTimer } := by
  unfold Job.aborted
  cases r.disarmPending <;> simp

/-- The end of an aborted run, in one change and one report (R17, R18). -/
theorem State.endAborted_eq (s : State) (j : JobId) :
    s.endAborted j = (s.setJob j { s.job j with
        state := if (s.job j).disarmPending then .idle else .armed, disarmPending := false, stopReason := none
        periodTimer := if (s.job j).disarmPending then none else (s.job j).periodTimer }).emit
      (s.job j).owner (some j) none (.jobAborted (s.job j).runNumber (s.job j).missed) := by
  unfold State.endAborted State.reportAbort
  rw [Job.aborted_eq, State.setJob_job_same]

/-- The same, when the record is known. -/
theorem State.endAborted_of_job {s : State} {j : JobId} {r : Job} (hr : s.job j = r) :
    s.endAborted j = (s.setJob j { r with
        state := if r.disarmPending then .idle else .armed, disarmPending := false, stopReason := none
        periodTimer := if r.disarmPending then none else r.periodTimer }).emit
      r.owner (some j) none (.jobAborted r.runNumber r.missed) := by
  rw [State.endAborted_eq, hr]

section AbortJob
variable (s : State) (j : JobId)

/-- In PENDING the job leaves the queue for ARMED. -/
theorem State.abortJob_of_pending (hs : (s.job j).state = .pending) :
    s.abortJob j = (State.emit { s with
      queue := s.queue.erase j
      jobs := s.jobs.put j { s.job j with state := .armed, latch := none, deadlineTimer := none, blocked := false } }
      (s.job j).owner (some j) none (.jobAborted (s.job j).runNumber (s.job j).missed)).answer [] := by
  unfold State.abortJob
  simp only [hs]
  refine congrArg (State.answer · []) (State.Bookkept.eq (s := s) ?_ ?_ ?_ ?_ ?_)
  · exact ((((s.setJob_bookkept j _).trans (State.dequeue_bookkept _ j)).trans (State.setJob_bookkept _ j _)).trans
      (State.setJob_bookkept _ j _)).trans (State.emit_bookkept ..)
  · exact (s.bookkept_of_tables ..).trans (State.emit_bookkept ..)
  · simp [State.reportAbort, State.cancelDeadline]
  · rfl
  · simp [State.reportAbort, State.cancelDeadline, State.emit]

/-- What the run of a SETTLING or PREEMPTED job leaves when it is aborted, given the blocked indication and the queue
that go with it (R17). -/
def State.abortLeft (s : State) (j : JobId) (f : FrameId) (blocked : Bool) (queue : List JobId) : State :=
  State.vacate { s with
    jobs := s.jobs.put j { s.job j with latch := none, fillFrame := none, deadlineTimer := none, blocked := blocked }
    queue := queue
    frames := s.frames.put f Frame.free, pool := s.pool ++ [f]
    inUse := s.inUse.put (s.job j).owner (s.inUse.get (s.job j).owner - 1), exc := s.excWithout j } j

/-- The same with the job come to ARMED or IDLE and the abort reported. -/
def State.abortEnded (s : State) (j : JobId) (f : FrameId) (blocked : Bool) (queue : List JobId) : State :=
  State.emit ((s.abortLeft j f blocked queue).setJob j { s.job j with
      state := if (s.job j).disarmPending then .idle else .armed, latch := none, fillFrame := none
      deadlineTimer := none, disarmPending := false, stopReason := none, blocked := blocked
      periodTimer := if (s.job j).disarmPending then none else (s.job j).periodTimer })
    (s.job j).owner (some j) none (.jobAborted (s.job j).runNumber (s.job j).missed)

theorem State.abortLeft_job (f : FrameId) (blocked : Bool) (queue : List JobId) :
    (s.abortLeft j f blocked queue).job j =
      { s.job j with latch := none, fillFrame := none, deadlineTimer := none, blocked := blocked } := by
  unfold State.abortLeft
  rw [State.vacate_job]
  exact Table.at_put_same ..

/-- In SETTLING the converter is free again, and the Dispatcher decides. -/
theorem State.abortJob_of_settling {f : FrameId} (hs : (s.job j).state = .settling)
    (hf : (s.job j).fillFrame = some f) :
    s.abortJob j = (State.freeDecision { s.abortEnded j f (s.job j).blocked s.queue with
      engine := s.engine.released }).answer [] := by
  have hrule : s.abortJob j = (((((s.setJob j { s.job j with latch := none }).releaseRun j).releaseConverter).endAborted
      j).freeDecision).answer [] := by
    unfold State.abortJob
    rw [hs]
  have hrelease : (s.setJob j { s.job j with latch := none }).releaseRun j =
      s.abortLeft j f (s.job j).blocked s.queue := by
    rw [State.releaseRun_of_some (f := f) (by simpa using hf)]
    simp [State.excWithout, State.abortLeft]
  have hengine : (s.abortLeft j f (s.job j).blocked s.queue).engine = s.engine := State.vacate_engine ..
  rw [hrule, hrelease, State.endAborted_of_job (s := (s.abortLeft j f (s.job j).blocked s.queue).releaseConverter)
      (s.abortLeft_job j f (s.job j).blocked s.queue),
    ← show (s.abortLeft j f (s.job j).blocked s.queue).engine.released = s.engine.released by rw [hengine]]
  rfl

/-- In PREEMPTED the job leaves the queue, and what it gave back reaches the Dispatcher. -/
theorem State.abortJob_of_preempted {f : FrameId} (hs : (s.job j).state = .preempted)
    (hf : (s.job j).fillFrame = some f) :
    s.abortJob j = ((s.abortEnded j f false (s.queue.erase j)).arrival).answer [] := by
  have hrule : s.abortJob j = (((((s.setJob j { s.job j with latch := none }).dequeue j).releaseRun j).endAborted
      j).arrival).answer [] := by
    unfold State.abortJob
    rw [hs]
  have hrelease : ((s.setJob j { s.job j with latch := none }).dequeue j).releaseRun j =
      s.abortLeft j f false (s.queue.erase j) := by
    rw [State.releaseRun_of_some (f := f) (by simpa using hf)]
    simp [State.excWithout, State.abortLeft, State.dequeue, State.setJob, State.job]
  rw [hrule, hrelease, State.endAborted_of_job (s.abortLeft_job j f false (s.queue.erase j))]
  rfl

end AbortJob

/-- Settles O25. -/
theorem abortJobByState : Obligations.AbortJobByState := by
  intro h s j ho hc r i
  have hexec := exec_of_commandable (body := State.abortJob) rfl ho hc
  change exec i s = _ at hexec
  rw [hexec]
  refine ⟨fun hs => ?_, fun hs => ?_, fun hs => ?_, fun f hf => ?_⟩
  · have hrefuse : s.abortJob j = s.refuse .wrongState := by
      unfold State.abortJob
      rcases hs with hs | hs | hs <;> simp only [show (s.job j).state = _ from hs]
    rw [hrefuse]
    rfl
  · rw [s.abortJob_of_pending j hs]
    rfl
  · have hstop : s.abortJob j =
        (s.setJob j { r with state := .stopping, stopReason := some .abort, latch := none }).answer [] := by
      unfold State.abortJob
      rcases hs with hs | hs <;> simp [show (s.job j).state = _ from hs, r]
    rw [hstop]
    rfl
  · intro blocked left ended
    have hended : ended = s.abortEnded j f (if r.state = .preempted then false else r.blocked)
        (if r.state = .preempted then s.queue.erase j else s.queue) := rfl
    refine ⟨fun hs => ?_, fun hs => ?_⟩
    · have hp : r.state ≠ .preempted := by simp [hs]
      rw [s.abortJob_of_settling j hs hf, hended, if_neg hp, if_neg hp]
      rfl
    · rw [s.abortJob_of_preempted j hs hf, hended, if_pos hs, if_pos hs]
      rfl

end Sys2Proof.Machine

namespace Sys2Proof.Machine

/-! ## The agreement of the scheduling blocks, job by job

`State.Scheduled` is taken apart into what it says of one job, of the Sequence Store, of the queue and of the engine
alone, so that an operation on one job is judged by that job's part. -/

/-- What `State.Scheduled` says of one job. -/
structure State.JobAgrees (s : State) (k : JobId) : Prop where
  sound : (s.job k).Sound
  queued : k ∈ s.queue ↔ (s.job k).state.queued = true
  settling : (s.job k).state = .settling ↔ s.engine.settlingJob = some k
  converting : ((s.job k).state = .running ∨ (s.job k).state = .stopping) ↔
    s.engine.step.map StepInProgress.job = some k
  nextStep : (s.job k).state = .settling ∨ (s.job k).state = .running ∨ (s.job k).state = .preempted →
    (s.job k).nextStep < (s.seqOf k).steps.length

/-- The part of `State.Scheduled` that does not speak of the engine's state. -/
structure State.Agreed (s : State) : Prop where
  jobs : ∀ k : JobId, s.JobAgrees k
  seqs : s.SequencesSound
  nodup : s.queue.Nodup

/-- The engine's state goes with its step and its settling job (R108). -/
def Engine.Shaped (e : Engine) : Prop :=
  (e.settlingJob.isSome = true ↔ e.state = .settling) ∧ (e.step.isSome = true ↔ e.state = .converting)

theorem State.scheduled_iff (s : State) : s.Scheduled ↔ s.Agreed ∧ s.engine.Shaped := by
  constructor
  · rintro ⟨hjobs, hseqs, ⟨hnodup, hqueue⟩, ⟨hsettling, hconverting, hshape⟩, hsteps⟩
    exact ⟨⟨fun k => ⟨hjobs k, hqueue k, hsettling k, hconverting k, hsteps k⟩, hseqs, hnodup⟩, hshape⟩
  · rintro ⟨⟨hjobs, hseqs, hnodup⟩, hshape⟩
    exact ⟨fun k => (hjobs k).sound, hseqs, ⟨hnodup, fun k => (hjobs k).queued⟩,
      ⟨fun k => (hjobs k).settling, fun k => (hjobs k).converting, hshape⟩, fun k => (hjobs k).nextStep⟩

/-- All but one job agree, and that job stands neither in the queue nor at the converter. -/
structure State.AgreedBut (s : State) (j : JobId) : Prop where
  others : ∀ k : JobId, k ≠ j → s.JobAgrees k
  seqs : s.SequencesSound
  nodup : s.queue.Nodup
  notQueued : j ∉ s.queue
  notSettling : s.engine.settlingJob ≠ some j
  notConverting : s.engine.step.map StepInProgress.job ≠ some j
  named : (s.job j).state ≠ .free

/-! ### What an agreement depends on -/

/-- A record's agreement depends on its own fields but the blocked indication, its place in the queue and at the
converter, and the length of its sequence. -/
theorem State.JobAgrees.congr {s t : State} {k : JobId} (h : s.JobAgrees k) {b : Bool}
    (hjob : t.job k = { s.job k with blocked := b }) (hqueue : k ∈ t.queue ↔ k ∈ s.queue)
    (hsettling : t.engine.settlingJob = some k ↔ s.engine.settlingJob = some k)
    (hstep : t.engine.step.map StepInProgress.job = some k ↔ s.engine.step.map StepInProgress.job = some k)
    (hseq : (s.job k).state ≠ .free → (t.seqs.at (s.job k).seq).steps = (s.seqs.at (s.job k).seq).steps) :
    t.JobAgrees k := by
  obtain ⟨hsound, hqueued, hset, hconv, hnext⟩ := h
  refine ⟨?_, ?_, ?_, ?_, ?_⟩ <;> rw [hjob]
  · exact hsound
  · exact hqueue.trans hqueued
  · exact hset.trans hsettling.symm
  · exact hconv.trans hstep.symm
  · intro hs
    have hnamed : (s.job k).state ≠ .free := by
      rcases hs with hs | hs | hs <;> simp [show (s.job k).state = _ from hs]
    have := hnext hs
    rw [State.seqOf, ← hseq hnamed] at this
    rw [State.seqOf, hjob]
    exact this

theorem State.namers_congr {s t : State} (h : ∀ j : JobId, ((t.job j).state = .free ↔ (s.job j).state = .free) ∧
    (t.job j).seq = (s.job j).seq) (k : SeqId) : t.namers k = s.namers k := by
  unfold State.namers
  congr 1
  refine List.filter_congr fun j _ => ?_
  obtain ⟨hstate, hseq⟩ := h j
  rw [hseq]
  congr 1
  simp [bne, hstate]

theorem State.SequencesSound.congr {s t : State} (h : s.SequencesSound) (hseqs : t.seqs = s.seqs)
    (hfree : t.freeSteps = s.freeSteps) (hjobs : ∀ j : JobId, ((t.job j).state = .free ↔ (s.job j).state = .free) ∧
      (t.job j).seq = (s.job j).seq) : t.SequencesSound := by
  refine ⟨fun k => ?_, ?_⟩
  · have := h.1 k
    unfold State.SeqSound at this ⊢
    rwa [hseqs, State.namers_congr hjobs]
  · have := h.2
    unfold State.PoolSound at this ⊢
    rwa [hseqs, hfree]

/-- The items that an agreement reads. -/
structure State.SameSchedule (s t : State) : Prop where
  jobs : t.jobs = s.jobs
  seqs : t.seqs = s.seqs
  freeSteps : t.freeSteps = s.freeSteps
  queue : t.queue = s.queue
  engine : t.engine = s.engine

theorem State.SameSchedule.job {s t : State} (h : s.SameSchedule t) (k : JobId) : t.job k = s.job k := by
  rw [State.job, h.jobs]
  rfl

theorem State.SameSchedule.jobAgrees {s t : State} (h : s.SameSchedule t) {k : JobId} (hk : s.JobAgrees k) :
    t.JobAgrees k :=
  hk.congr (b := (s.job k).blocked) (h.job k) (by rw [h.queue]) (by rw [h.engine]) (by rw [h.engine]) fun _ => by
    rw [h.seqs]

theorem State.SameSchedule.sequencesSound {s t : State} (h : s.SameSchedule t) (hs : s.SequencesSound) :
    t.SequencesSound := hs.congr h.seqs h.freeSteps fun j => by rw [h.job]; exact ⟨.rfl, rfl⟩

theorem State.SameSchedule.agreed {s t : State} (h : s.SameSchedule t) (hs : s.Agreed) : t.Agreed :=
  ⟨fun k => h.jobAgrees (hs.jobs k), h.sequencesSound hs.seqs, by rw [h.queue]; exact hs.nodup⟩

theorem State.SameSchedule.agreedBut {s t : State} (h : s.SameSchedule t) {j : JobId} (hs : s.AgreedBut j) :
    t.AgreedBut j :=
  ⟨fun k hk => h.jobAgrees (hs.others k hk), h.sequencesSound hs.seqs, by rw [h.queue]; exact hs.nodup,
    by rw [h.queue]; exact hs.notQueued, by rw [h.engine]; exact hs.notSettling,
    by rw [h.engine]; exact hs.notConverting, by rw [h.job]; exact hs.named⟩

/-! ### Where a job stands -/

/-- The places of a job: no record, at rest, in the dispatch queue, settling, or with its step in progress (Table 1-2). -/
inductive Place where
  | free | rest | queue | settling | converter
deriving DecidableEq

def JobState.place : JobState → Place
  | .free => .free
  | .idle | .armed | .done => .rest
  | .pending | .preempted => .queue
  | .settling => .settling
  | .running | .stopping => .converter

theorem JobState.place_eq_free_iff (st : JobState) : st.place = .free ↔ st = .free := by cases st <;> decide

theorem JobState.queued_iff (st : JobState) : st.queued = true ↔ st.place = .queue := by cases st <;> decide

theorem JobState.place_eq_settling_iff (st : JobState) : st.place = .settling ↔ st = .settling := by
  cases st <;> decide

theorem JobState.place_eq_converter_iff (st : JobState) : st.place = .converter ↔ st = .running ∨ st = .stopping := by
  cases st <;> decide

/-- A record's change that moves its job nowhere. -/
theorem State.Agreed.setJob {s : State} (h : s.Agreed) {j : JobId} {r : Job} (hr : r.Sound)
    (hplace : r.state.place = (s.job j).state.place) (hseq : r.seq = (s.job j).seq)
    (hnext : r.state = .settling ∨ r.state = .running ∨ r.state = .preempted →
      r.nextStep < (s.seqOf j).steps.length) : (s.setJob j r).Agreed := by
  have hj := h.jobs j
  refine ⟨fun k => ?_, h.seqs.congr rfl rfl fun k => ?_, h.nodup⟩
  · by_cases hk : k = j
    · subst hk
      refine ⟨?_, ?_, ?_, ?_, ?_⟩ <;> rw [State.setJob_job_same]
      · exact hr
      · rw [JobState.queued_iff, hplace, ← JobState.queued_iff]
        exact hj.queued
      · rw [← JobState.place_eq_settling_iff, hplace, JobState.place_eq_settling_iff]
        exact hj.settling
      · rw [← JobState.place_eq_converter_iff, hplace, JobState.place_eq_converter_iff]
        exact hj.converting
      · intro hs
        simpa [State.seqOf, hseq] using hnext hs
    · refine (h.jobs k).congr (b := (s.job k).blocked) ?_ .rfl .rfl .rfl fun _ => rfl
      rw [State.setJob_job, if_neg hk]
  · rw [State.setJob_job]
    split
    · subst k
      refine ⟨?_, hseq⟩
      rw [← JobState.place_eq_free_iff, hplace, JobState.place_eq_free_iff]
    · exact ⟨.rfl, rfl⟩

/-! ### Setting one job aside -/

/-- A job at rest stands aside. -/
theorem State.Agreed.but_of_rest {s : State} (h : s.Agreed) {j : JobId} (hs : (s.job j).state.place = .rest) :
    s.AgreedBut j := by
  have hj := h.jobs j
  refine ⟨fun k _ => h.jobs k, h.seqs, h.nodup, ?_, ?_, ?_, ?_⟩
  · rw [hj.queued, JobState.queued_iff, hs]
    decide
  · rw [ne_eq, ← hj.settling, ← JobState.place_eq_settling_iff, hs]
    decide
  · rw [ne_eq, ← hj.converting, ← JobState.place_eq_converter_iff, hs]
    decide
  · rw [ne_eq, ← JobState.place_eq_free_iff, hs]
    decide

/-- A job taken from the queue stands aside. -/
theorem State.Agreed.but_of_dequeue {s : State} (h : s.Agreed) {j : JobId}
    (hs : (s.job j).state.place = .rest ∨ (s.job j).state.place = .queue) : (s.dequeue j).AgreedBut j := by
  have hj := h.jobs j
  refine ⟨fun k hk => (h.jobs k).congr (b := (s.job k).blocked) ?_ ?_ .rfl .rfl fun _ => rfl, ?_, ?_, ?_, ?_, ?_, ?_⟩
  · simp [State.job, Table.at_put_of_ne _ _ hk]
  · rw [State.dequeue_queue]
    exact List.mem_erase_of_ne hk
  · refine h.seqs.congr rfl rfl fun k => ?_
    simp only [State.job, State.dequeue_jobs, Table.at_put]
    split
    · subst k
      exact ⟨.rfl, rfl⟩
    · exact ⟨.rfl, rfl⟩
  · exact h.nodup.erase j
  · exact h.nodup.not_mem_erase
  · rw [State.dequeue_engine, ne_eq, ← hj.settling, ← JobState.place_eq_settling_iff]
    rcases hs with hs | hs <;> simp [hs]
  · rw [State.dequeue_engine, ne_eq, ← hj.converting, ← JobState.place_eq_converter_iff]
    rcases hs with hs | hs <;> simp [hs]
  · rw [State.dequeue_job_same, ne_eq, ← JobState.place_eq_free_iff]
    rcases hs with hs | hs <;> simp [hs]

/-- A settling job whose converter is released stands aside. -/
theorem State.Scheduled.but_of_settling {s : State} (h : s.Scheduled) {j : JobId} (hs : (s.job j).state = .settling) :
    s.releaseConverter.AgreedBut j := by
  obtain ⟨ha, hshape⟩ := s.scheduled_iff.1 h
  have hj := (ha.jobs j).settling.1 hs
  have hstep : s.engine.step = none := by
    have hst := hshape.1.1 (by simp [hj])
    simpa [hst] using hshape.2
  refine ⟨fun k hk => (ha.jobs k).congr (b := (s.job k).blocked) rfl .rfl ?_ ?_ fun _ => rfl,
    ha.seqs.congr rfl rfl fun k => ⟨.rfl, rfl⟩, ha.nodup, ?_, ?_, ?_, ?_⟩
  · simpa [hj] using Ne.symm hk
  · simp [hstep]
  · intro hq
    have := (ha.jobs j).queued.1 hq
    simp [JobState.queued, hs] at this
  · simp
  · simp
  · intro hf
    change (s.job j).state = .free at hf
    simp [hs] at hf

/-- A job whose step has completed stands aside. -/
theorem State.Scheduled.but_of_converting {s : State} (h : s.Scheduled) {p : StepInProgress}
    (hp : s.engine.step = some p) (e : Engine) (hstep : e.step = none) (hsettling : e.settlingJob = none) :
    ({ s with engine := e } : State).AgreedBut p.job := by
  obtain ⟨ha, hshape⟩ := s.scheduled_iff.1 h
  have hj := (ha.jobs p.job).converting.2 (by simp [hp])
  have hset : s.engine.settlingJob = none := by
    have hst := hshape.2.1 (by simp [hp])
    simpa [hst] using hshape.1
  refine ⟨fun k hk => (ha.jobs k).congr (b := (s.job k).blocked) rfl .rfl ?_ ?_ fun _ => rfl,
    ha.seqs.congr rfl rfl fun k => ⟨.rfl, rfl⟩, ha.nodup, ?_, ?_, ?_, ?_⟩
  · simp [hsettling, hset]
  · simpa [hstep, hp] using Ne.symm hk
  · intro hq
    have := (ha.jobs p.job).queued.1 hq
    rcases hj with hj | hj <;> simp [JobState.queued, hj] at this
  · simp [hsettling]
  · simp [hstep]
  · intro hf
    change (s.job p.job).state = .free at hf
    rcases hj with hj | hj <;> simp [hj] at hf

/-! ### The job aside, and its return -/

section AgreedBut
variable {s : State} {j : JobId} (h : s.AgreedBut j)
include h

/-- Any record of the job aside will do, as long as it names the same sequence. -/
theorem State.AgreedBut.setJob {r : Job} (hnamed : r.state ≠ .free) (hseq : r.seq = (s.job j).seq) :
    (s.setJob j r).AgreedBut j := by
  refine ⟨fun k hk => (h.others k hk).congr (b := (s.job k).blocked) ?_ .rfl .rfl .rfl fun _ => rfl,
    h.seqs.congr rfl rfl fun k => ?_, h.nodup, h.notQueued, h.notSettling, h.notConverting, ?_⟩
  · rw [State.setJob_job, if_neg hk]
  · rw [State.setJob_job]
    split
    · subst k
      simp [hnamed, hseq, h.named]
    · exact ⟨.rfl, rfl⟩
  · rw [State.setJob_job_same]
    exact hnamed

/-- The job comes to rest. -/
theorem State.AgreedBut.rest (hr : (s.job j).Sound) (hs : (s.job j).state.place = .rest) : s.Agreed := by
  refine ⟨fun k => ?_, h.seqs, h.nodup⟩
  by_cases hk : k = j
  · subst hk
    refine ⟨hr, ?_, ?_, ?_, fun hn => ?_⟩
    · rw [JobState.queued_iff, hs]
      simpa using h.notQueued
    · rw [← JobState.place_eq_settling_iff, hs]
      simpa using h.notSettling
    · rw [← JobState.place_eq_converter_iff, hs]
      simpa using h.notConverting
    · rcases hn with hn | hn | hn <;> simp [hn, JobState.place] at hs
  · exact h.others k hk

/-- The job enters the dispatch queue. -/
theorem State.AgreedBut.enqueue (hr : (s.job j).Sound) (hs : (s.job j).state.place = .queue)
    (hnext : (s.job j).state = .preempted → (s.job j).nextStep < (s.seqOf j).steps.length) : (s.enqueue j).Agreed := by
  refine ⟨fun k => ?_, h.seqs.congr rfl rfl fun k => ?_, ?_⟩
  · by_cases hk : k = j
    · subst hk
      refine ⟨?_, ?_, ?_, ?_, fun hn => ?_⟩ <;> rw [State.enqueue_job_same] at *
      · exact hr
      · rw [JobState.queued_iff, hs]
        simp [State.mem_enqueue]
      · rw [← JobState.place_eq_settling_iff, hs]
        simpa using h.notSettling
      · rw [← JobState.place_eq_converter_iff, hs]
        simpa using h.notConverting
      · have hp : (s.job k).state = .preempted := by
          rcases hn with hn | hn | hn
          · simp [show (s.job k).state = _ from hn, JobState.place] at hs
          · simp [show (s.job k).state = _ from hn, JobState.place] at hs
          · exact hn
        simpa [State.seqOf] using hnext hp
    · refine (h.others k hk).congr (b := (s.job k).blocked) ?_ ?_ .rfl .rfl fun _ => rfl
      · simp [State.job, Table.at_put_of_ne _ _ hk]
      · simp [State.mem_enqueue, hk]
  · simp only [State.job, State.enqueue_jobs, Table.at_put]
    split
    · subst k
      exact ⟨.rfl, rfl⟩
    · exact ⟨.rfl, rfl⟩
  · exact (placeInQueue_perm _ j s.queue).nodup_iff.2 (List.nodup_cons.2 ⟨h.notQueued, h.nodup⟩)

/-- With the converter without step and settling job, the job aside takes it with a step in progress. -/
theorem State.AgreedBut.start (hset : s.engine.settlingJob = none) (hstep : s.engine.step = none)
    (hr : (s.job j).Sound) (hs : (s.job j).state = .running)
    (hnext : (s.job j).nextStep < (s.seqOf j).steps.length) (index : Nat) (x : SeqStep) (now : Time) :
    ({ s with engine := s.engine.starting j index x now } : State).Scheduled := by
  refine (State.scheduled_iff _).2 ⟨⟨fun k => ?_, h.seqs.congr rfl rfl fun _ => ⟨.rfl, rfl⟩, h.nodup⟩, ?_⟩
  · by_cases hk : k = j
    · subst hk
      change (s.job k).Sound at hr
      refine ⟨hr, ?_, ?_, ?_, fun _ => hnext⟩
      · change k ∈ s.queue ↔ (s.job k).state.queued = true
        simp [hs, JobState.queued, h.notQueued]
      · change (s.job k).state = .settling ↔ _
        simp [hs, Engine.starting]
      · change (s.job k).state = .running ∨ (s.job k).state = .stopping ↔ _
        simp [hs, Engine.starting]
    · refine (h.others k hk).congr (b := (s.job k).blocked) rfl .rfl ?_ ?_ fun _ => rfl
      · simp [Engine.starting, hset]
      · simpa [Engine.starting, hstep] using Ne.symm hk
  · simp [Engine.Shaped, Engine.starting]

/-- With the converter without step and settling job, the job aside takes it to settle. -/
theorem State.AgreedBut.settle (hset : s.engine.settlingJob = none) (hstep : s.engine.step = none)
    (hr : (s.job j).Sound) (hs : (s.job j).state = .settling)
    (hnext : (s.job j).nextStep < (s.seqOf j).steps.length) :
    ({ s with engine := s.engine.settlingFor j } : State).Scheduled := by
  refine (State.scheduled_iff _).2 ⟨⟨fun k => ?_, h.seqs.congr rfl rfl fun _ => ⟨.rfl, rfl⟩, h.nodup⟩, ?_⟩
  · by_cases hk : k = j
    · subst hk
      refine ⟨hr, ?_, ?_, ?_, fun _ => hnext⟩
      · change k ∈ s.queue ↔ (s.job k).state.queued = true
        simp [hs, JobState.queued, h.notQueued]
      · change (s.job k).state = .settling ↔ _
        simp [hs, Engine.settlingFor]
      · change (s.job k).state = .running ∨ (s.job k).state = .stopping ↔ _
        simp [hs, Engine.settlingFor]
    · refine (h.others k hk).congr (b := (s.job k).blocked) rfl .rfl ?_ ?_ fun _ => rfl
      · simpa [Engine.settlingFor, hset] using Ne.symm hk
      · simp [Engine.settlingFor, hstep]
  · simp [Engine.Shaped, Engine.settlingFor]

end AgreedBut

/-- An agreement with the converter without step and settling job is one with the converter released. -/
theorem State.Agreed.released {s : State} (h : s.Agreed) (hset : s.engine.settlingJob = none)
    (hstep : s.engine.step = none) : s.releaseConverter.Scheduled := by
  refine (State.scheduled_iff _).2 ⟨⟨fun k => ?_, h.seqs.congr rfl rfl fun _ => ⟨.rfl, rfl⟩, h.nodup⟩, by
    simp [Engine.Shaped]⟩
  exact (h.jobs k).congr (b := (s.job k).blocked) rfl .rfl (by simp [hset]) (by simp [hstep]) fun _ => rfl

/-- The refresh of the blocked indications keeps an agreement. -/
theorem State.JobAgrees.refreshBlocked {s : State} {k : JobId} (h : s.JobAgrees k) : s.refreshBlocked.JobAgrees k := by
  have hengine := s.refreshBlocked_bookkept.engine
  refine h.congr (b := (s.refreshBlocked.job k).blocked) ?_ (by rw [s.refreshBlocked_queue]) (by rw [hengine])
    (by rw [hengine]) fun _ => by rw [s.refreshBlocked_bookkept.decided.seqs]
  rw [s.refreshBlocked_job]
  split <;> rfl

theorem State.SequencesSound.refreshBlocked {s : State} (h : s.SequencesSound) : s.refreshBlocked.SequencesSound := by
  refine h.congr s.refreshBlocked_bookkept.decided.seqs s.refreshBlocked_bookkept.decided.freeSteps fun k => ?_
  rw [s.refreshBlocked_job]
  split
  · exact ⟨.rfl, rfl⟩
  · exact ⟨.rfl, rfl⟩

theorem State.Agreed.refreshBlocked {s : State} (h : s.Agreed) : s.refreshBlocked.Agreed :=
  ⟨fun k => (h.jobs k).refreshBlocked, h.seqs.refreshBlocked, by rw [s.refreshBlocked_queue]; exact h.nodup⟩

theorem State.AgreedBut.refreshBlocked {s : State} {j : JobId} (h : s.AgreedBut j) : s.refreshBlocked.AgreedBut j := by
  have hengine := s.refreshBlocked_bookkept.engine
  refine ⟨fun k hk => (h.others k hk).refreshBlocked, h.seqs.refreshBlocked, ?_, ?_, ?_, ?_, ?_⟩
  · rw [s.refreshBlocked_queue]
    exact h.nodup
  · rw [s.refreshBlocked_queue]
    exact h.notQueued
  · rw [hengine]
    exact h.notSettling
  · rw [hengine]
    exact h.notConverting
  · rw [s.refreshBlocked_job, if_neg h.notQueued]
    exact h.named

/-! ### Records -/

/-- The record of a job whose run ends counted: within its ranges, with no deadline timer, its period timer running
for source PERIOD, and no latch that DISARM_JOB would have cleared. -/
structure Job.Ending (r : Job) : Prop where
  missed : r.missed ≤ 255
  preemptCount : r.preemptCount ≤ 255
  runsRemaining : r.runsRemaining ≤ 255
  count : ∀ n, r.repeatMode = .count n → 1 ≤ n ∧ n ≤ 255
  period : r.period.isSome = true ↔ r.source = .period
  periodRange : ∀ p, r.period = some p → 20 ≤ p ∧ p ≤ 1048575
  deadlineRange : ∀ d, r.deadline = some d → 1 ≤ d ∧ d ≤ 65535
  periodTimer : r.periodTimer.isSome = (r.source == .period)
  deadlineTimer : r.deadlineTimer = none

/-- A sound record of a job with a run in hand, once its deadline timer is cancelled, may end. -/
theorem Job.Sound.ending {r : Job} (h : r.Sound) (hs : r.state.busy = true) (ht : r.stopReason ≠ some .teardown) :
    ({ r with deadlineTimer := none } : Job).Ending := by
  obtain ⟨hm, hp, hr, hc, hpe, hpr, hdr, hl, hd, hst, hpre, hpt, hdt, htd⟩ := h
  refine ⟨hm, hp, hr, hc, hpe, hpr, hdr, ?_, rfl⟩
  simp only
  rw [hpt]
  simp [Job.periodRuns, hs, ht]

/-- The record that a counted run end leaves at rest is sound. -/
theorem Job.Ending.ended_sound {r : Job} (h : r.Ending) : r.ended.Sound := by
  obtain ⟨hm, hp, hr, hc, hpe, hpr, hdr, hpt, hdt⟩ := h
  have hruns : r.runsAfter ≤ 255 := by
    unfold Job.runsAfter
    split <;> omega
  have hmissed : r.ended.missed ≤ 255 := by
    simp only [Job.ended]
    split
    · exact Nat.min_le_left ..
    · exact hm
  refine ⟨hmissed, hp, hruns, hc, hpe, hpr, hdr, ?_, ?_, ?_, ?_, ?_, ?_, ?_⟩
  · simp [Job.ended]
  · simp [Job.ended]
  · rcases r.endState_cases with he | he | he <;> simp [Job.ended, he]
  · rcases r.endState_cases with he | he | he <;> simp [Job.ended, he]
  · rcases r.endState_cases with he | he | he <;> simp [Job.ended, he, Job.periodRuns, JobState.busy, hpt]
  · simp [Job.ended, hdt]
  · simp [Job.ended]

theorem Job.ended_place (r : Job) : r.ended.state.place = .rest := by
  rcases r.endState_cases with he | he | he <;> simp [Job.ended, he, JobState.place]

/-- A record that has taken a trigger in ARMED, or consumed a latch at ARMED, is sound. -/
theorem Job.Sound.triggered {r : Job} (h : r.Sound) (hs : r.state = .armed) (stamp : Time) (mark : Option EdgeMark) :
    (r.triggered stamp mark).Sound := by
  obtain ⟨hm, hp, hr, hc, hpe, hpr, hdr, hl, hd, hst, hpre, hpt, hdt, htd⟩ := h
  have hdisarm : r.disarmPending = false := by
    rw [Bool.eq_false_iff]
    intro hdp
    have := (hd hdp).1
    simp [hs, JobState.dispatched] at this
  have hstop : r.stopReason = none := by
    rw [← Option.not_isSome_iff_eq_none, hst, hs]
    decide
  refine ⟨Nat.zero_le _, hp, hr, hc, hpe, hpr, hdr, ?_, ?_, ?_, ?_, ?_, ?_, ?_⟩
  · simp [Job.triggered]
  · simp [Job.triggered, hdisarm]
  · simp [Job.triggered, hstop]
  · simp [Job.triggered]
  · simp only [Job.triggered, Job.periodRuns, JobState.busy] at hpt ⊢
    simpa [hs, hstop] using hpt
  · simp [Job.triggered, JobState.busy]
  · simp [Job.triggered, hstop]

end Sys2Proof.Machine

namespace Sys2Proof.Machine

/-! ## Run ends and queue entries keep the agreement (R6, R14, R15, R16) -/

theorem Job.Sound.untimed {r : Job} (h : r.Sound) (b : Bool) :
    ({ r with deadlineTimer := none, deadlineMissed := b } : Job).Sound := by
  obtain ⟨hm, hp, hr, hc, hpe, hpr, hdr, hl, hd, hst, hpre, hpt, hdt, htd⟩ := h
  exact ⟨hm, hp, hr, hc, hpe, hpr, hdr, hl, hd, hst, hpre, hpt, by simp, by simp⟩

theorem Job.Sound.stopReason_of_not_stopping {r : Job} (h : r.Sound) (hs : r.state ≠ .stopping) :
    r.stopReason = none := by
  obtain ⟨_, _, _, _, _, _, _, _, _, hst, _⟩ := h
  rw [← Option.not_isSome_iff_eq_none, hst]
  exact hs

/-- A job record and event queues written together are, for the schedule, the record alone. -/
theorem State.sameSchedule_setJob (s : State) (j : JobId) (r : Job) (events : PerHost EventQueue) :
    (s.setJob j r).SameSchedule { s with jobs := s.jobs.put j r, events := events } := ⟨rfl, rfl, rfl, rfl, rfl⟩

/-- The job aside enters PENDING, with its deadline's expiry at once (R6, R44). -/
theorem State.AgreedBut.entering {s : State} {j : JobId} (h : s.AgreedBut j) {r : Job} (hr : r.Sound)
    (hs : r.state = .pending) (hseq : r.seq = (s.job j).seq) : (s.entering j r).Agreed := by
  have hnamed : r.state ≠ .free := by simp [hs]
  have hplace : r.state.place = .queue := by simp [hs, JobState.place]
  unfold State.entering
  split
  · dsimp only
    split
    · refine ((State.sameSchedule_setJob s j { r with deadlineTimer := none, deadlineMissed := true } _).agreedBut
        (h.setJob hnamed hseq)).enqueue ?_ ?_ ?_ <;>
        rw [(State.sameSchedule_setJob ..).job, State.setJob_job_same]
      · exact hr.untimed true
      · exact hplace
      · simp [hs]
    · have hending := hr.ending (by simp [hs, JobState.busy]) (by simp [hr.stopReason_of_not_stopping (by simp [hs])])
      refine (State.sameSchedule_setJob s j _ _).agreed ((h.setJob (r := Job.ended { r with
        runNumber := r.runNumber + 1, deadlineTimer := none, blocked := false }) ?_ hseq).rest ?_ ?_)
      · rw [ne_eq, ← JobState.place_eq_free_iff, Job.ended_place]
        decide
      · rw [State.setJob_job_same]
        exact Job.Ending.ended_sound ⟨hending.missed, hending.preemptCount, hending.runsRemaining, hending.count,
          hending.period, hending.periodRange, hending.deadlineRange, hending.periodTimer, rfl⟩
      · rw [State.setJob_job_same, Job.ended_place]
  · refine (h.setJob hnamed hseq).enqueue ?_ ?_ ?_ <;> rw [State.setJob_job_same]
    · exact hr
    · exact hplace
    · simp [hs]

/-- A job that has taken a trigger in ARMED enters the queue (R6). -/
theorem State.AgreedBut.enterTriggered {s : State} {j : JobId} (h : s.AgreedBut j) {r : Job} (hr : r.Sound)
    (hs : r.state = .armed) (hseq : r.seq = (s.job j).seq) (stamp : Time) (mark : Option EdgeMark) :
    (((s.setJob j (r.triggered stamp mark)).enqueue j).expireAtOnce j).Agreed := by
  rw [State.expireAtOnce_enqueue rfl rfl rfl h.notQueued]
  exact h.entering (hr.triggered hs stamp mark) rfl hseq

/-- A counted run end of the job aside (R14, R15). -/
theorem State.AgreedBut.endRun {s : State} {j : JobId} (h : s.AgreedBut j) (he : (s.job j).Ending) :
    (s.endRun j).Agreed := by
  by_cases hl : (s.job j).endState ≠ .armed ∨ (s.job j).latch = none
  · rw [State.endRun_of_no_latch hl]
    refine (State.sameSchedule_setJob s j _ _).agreed ((h.setJob (r := (s.job j).ended) ?_ rfl).rest ?_ ?_)
    · rw [ne_eq, ← JobState.place_eq_free_iff, Job.ended_place]
      decide
    · rw [State.setJob_job_same]
      exact he.ended_sound
    · rw [State.setJob_job_same, Job.ended_place]
  · obtain ⟨ha, hs⟩ := not_or.1 hl
    obtain ⟨stamp, hstamp⟩ := Option.ne_none_iff_exists'.1 hs
    rw [State.endRun_of_latch (not_not.1 ha) hstamp]
    exact h.enterTriggered he.ended_sound (not_not.1 ha) rfl stamp none

@[simp] theorem State.endRun_engine (s : State) (j : JobId) : (s.endRun j).engine = s.engine :=
  (s.endRun_bookkept j).engine

/-! ## The schedule and the engine -/

/-- What statement O58 says of a state. -/
structure State.Good (s : State) : Prop where
  scheduled : s.Scheduled
  engine : s.engine.Sound

theorem State.Good.agreed {s : State} (h : s.Good) : s.Agreed := (s.scheduled_iff.1 h.scheduled).1

theorem State.Good.shaped {s : State} (h : s.Good) : s.engine.Shaped := (s.scheduled_iff.1 h.scheduled).2

theorem State.Good.of {s : State} (ha : s.Agreed) (hs : s.engine.Shaped) (he : s.engine.Sound) : s.Good :=
  ⟨s.scheduled_iff.2 ⟨ha, hs⟩, he⟩

theorem State.SameSchedule.good {s t : State} (h : s.SameSchedule t) (hs : s.Good) : t.Good :=
  .of (h.agreed hs.agreed) (by rw [h.engine]; exact hs.shaped) (by rw [h.engine]; exact hs.engine)

/-- An agreement over an unchanged engine. -/
theorem State.Good.with_agreed {s t : State} (h : s.Good) (ht : t.Agreed) (he : t.engine = s.engine) : t.Good :=
  .of ht (by rw [he]; exact h.shaped) (by rw [he]; exact h.engine)

/-- The engine's counts stay while its state changes among those in which the failure count is below 3 (R121). -/
theorem Engine.Sound.moved {e e' : Engine} (h : e.Sound) (hf : e.failures ≠ 3)
    (hs : e'.state ≠ .fault) (hcounts : e'.effective = e.effective ∧ e'.requests = e.requests ∧
      e'.counter = e.counter ∧ e'.failures = e.failures ∧ e'.stale = e.stale) : e'.Sound := by
  obtain ⟨he, hr, hc, hm, hfault, hthree, hstale⟩ := h
  obtain ⟨h1, h2, h3, h4, h5⟩ := hcounts
  refine ⟨by rw [h1, h2, he], by rw [h2]; exact hr, by rw [h3]; exact hc, by rw [h4]; exact hm,
    fun h => absurd h hs, fun h => absurd (h4 ▸ h) hf, by rw [h4, h5]; exact hstale⟩

theorem Engine.Sound.failures_ne {e : Engine} (h : e.Sound) (hs : e.state ≠ .fault ∧ e.state ≠ .calibrating) :
    e.failures ≠ 3 := by
  obtain ⟨_, _, _, _, _, hthree, _⟩ := h
  exact fun h3 => (hthree h3).elim hs.1 hs.2

theorem Engine.Shaped.none_of_state {e : Engine} (h : e.Shaped) (hs : e.state ≠ .settling) (hc : e.state ≠ .converting) :
    e.settlingJob = none ∧ e.step = none := by
  constructor
  · rw [← Option.not_isSome_iff_eq_none, h.1]
    exact hs
  · rw [← Option.not_isSome_iff_eq_none, h.2]
    exact hc

end Sys2Proof.Machine

namespace Sys2Proof.Machine

/-! ## What the scheduling blocks do not see

The Result Store, the Excitation Controller, the Hold Manager, the Event Unit and the ports act beside the schedule. -/

section SameSchedule
variable (s : State) (j : JobId)

theorem State.SameSchedule.refl : s.SameSchedule s := ⟨rfl, rfl, rfl, rfl, rfl⟩

theorem State.SameSchedule.trans {s t u : State} (h : s.SameSchedule t) (k : t.SameSchedule u) : s.SameSchedule u :=
  ⟨k.jobs.trans h.jobs, k.seqs.trans h.seqs, k.freeSteps.trans h.freeSteps, k.queue.trans h.queue,
    k.engine.trans h.engine⟩

theorem State.SameSchedule.foldl {α : Type} {f : State → α → State} (h : ∀ (t : State) (x : α), t.SameSchedule (f t x))
    (l : List α) (s : State) : s.SameSchedule (l.foldl f s) := by
  induction l generalizing s with
  | nil => exact .refl s
  | cons x xs ih => exact (h s x).trans (ih _)

theorem State.SameSchedule.ite {s t u : State} {c : Prop} [Decidable c] (h : s.SameSchedule t) (k : s.SameSchedule u) :
    s.SameSchedule (if c then t else u) := by
  split
  · exact h
  · exact k

theorem State.emit_sameSchedule (h : HostId) (i : Option JobId) (f : Option FrameId) (b : EventBody) :
    s.SameSchedule (s.emit h i f b) := ⟨rfl, rfl, rfl, rfl, rfl⟩

theorem State.emitAll_sameSchedule (b : EventBody) : s.SameSchedule (s.emitAll b) :=
  ((s.emit_sameSchedule ..).trans (State.emit_sameSchedule ..)).trans (State.emit_sameSchedule ..)

theorem State.drawn_sameSchedule : s.SameSchedule s.drawn := ⟨rfl, rfl, rfl, rfl, rfl⟩

theorem State.drawnFor_sameSchedule {α : Type} (l : List α) : s.SameSchedule (s.drawnFor l) :=
  .ite (.refl s) s.drawn_sameSchedule

theorem State.setPort_sameSchedule (h : HostId) (p : Port) : s.SameSchedule (s.setPort h p) := ⟨rfl, rfl, rfl, rfl, rfl⟩

theorem State.setFrame_sameSchedule (f : FrameId) (r : Frame) : s.SameSchedule (s.setFrame f r) :=
  ⟨rfl, rfl, rfl, rfl, rfl⟩

theorem State.setGroup_sameSchedule (g : GroupId) (r : Group) : s.SameSchedule (s.setGroup g r) :=
  ⟨rfl, rfl, rfl, rfl, rfl⟩

theorem State.setWindow_sameSchedule (h : HostId) (w : WindowId) (r : Window) : s.SameSchedule (s.setWindow h w r) :=
  ⟨rfl, rfl, rfl, rfl, rfl⟩

theorem State.setTransient_sameSchedule (c : Option Level) : s.SameSchedule (s.setTransient j c) :=
  ⟨rfl, rfl, rfl, rfl, rfl⟩

theorem State.setStanding_sameSchedule (h : HostId) (l : Level) : s.SameSchedule (s.setStanding h l) :=
  ⟨rfl, rfl, rfl, rfl, rfl⟩

theorem State.returnFrame_sameSchedule (h : HostId) (f : FrameId) : s.SameSchedule (s.returnFrame h f) :=
  ⟨rfl, rfl, rfl, rfl, rfl⟩

theorem State.flushDelivery_sameSchedule (h : HostId) : s.SameSchedule (s.flushDelivery h) := by
  have hf : s.SameSchedule ((s.delivery.get h).foldl (fun t f => t.returnFrame h f) s) :=
    .foldl (fun t f => t.returnFrame_sameSchedule h f) _ s
  exact ⟨hf.jobs, hf.seqs, hf.freeSteps, hf.queue, hf.engine⟩

theorem State.vacate_sameSchedule : s.SameSchedule (s.vacate j) :=
  ⟨s.vacate_jobs j, s.vacate_seqs j, s.vacate_freeSteps j, s.vacate_queue j, s.vacate_engine j⟩

theorem State.takeFrame_sameSchedule (f : FrameId) (rest : List FrameId) : s.SameSchedule (s.takeFrame j f rest) :=
  ⟨rfl, rfl, rfl, rfl, rfl⟩

theorem State.reclaimFrame_sameSchedule (f : FrameId) (rest : List FrameId) : s.SameSchedule (s.reclaimFrame j f rest) :=
  ⟨rfl, rfl, rfl, rfl, rfl⟩

theorem State.reportIntrusion_sameSchedule (run : BitVec 16) : s.SameSchedule (s.reportIntrusion j run) :=
  .foldl (fun t _ => .ite (t.emit_sameSchedule ..) (.refl t)) _ s

theorem State.tellHolds_sameSchedule : s.SameSchedule (s.tellHolds j) := by
  unfold State.tellHolds State.occupy
  cases (s.job j).cls with
  | urgent => exact s.reportIntrusion_sameSchedule j _
  | routine => exact .foldl (fun t g => t.setGroup_sameSchedule g _) _ s

end SameSchedule

theorem State.SameSchedule.seqOf {s t : State} (h : s.SameSchedule t) (k : JobId) : t.seqOf k = s.seqOf k := by
  rw [State.seqOf, h.seqs, h.job]
  rfl

/-! ## Decisions keep the schedule (R31, R32, R33) -/

theorem State.namers_pos {s : State} {j : JobId} (hs : (s.job j).state ≠ .free) : 0 < s.namers (s.job j).seq :=
  List.length_pos_of_mem (a := j) (List.mem_filter.2 ⟨mem_allJobs j, by simpa [bne] using hs⟩)

/-- A job that is not FREE names a sequence with steps. -/
theorem State.SequencesSound.steps_pos {s : State} (h : s.SequencesSound) {j : JobId} (hs : (s.job j).state ≠ .free) :
    0 < (s.seqOf j).steps.length := by
  obtain ⟨_, hfree, hdefined, _⟩ := h.1 (s.job j).seq
  cases hd : (s.seqs.at (s.job j).seq).defined with
  | false =>
    have := (hfree hd).2
    have := s.namers_pos hs
    omega
  | true => exact (hdefined hd).1

theorem Job.Ending.renumbered {r : Job} (h : r.Ending) (n : BitVec 16) (b : Bool) (f : Option FrameId) :
    ({ r with runNumber := n, blocked := b, fillFrame := f } : Job).Ending :=
  ⟨h.missed, h.preemptCount, h.runsRemaining, h.count, h.period, h.periodRange, h.deadlineRange, h.periodTimer,
    h.deadlineTimer⟩

theorem Job.periodRuns_of_busy {r : Job} (h : r.state.busy = true) :
    r.periodRuns = (r.source == .period && r.stopReason != some .teardown) := by
  simp [Job.periodRuns, h]

/-- A queued job's record is sound with the converter. -/
theorem Job.Sound.selected {r : Job} (h : r.Sound) (hq : r.state.queued = true) {st : JobState}
    (hst : st = .settling ∨ st = .running) {n : Nat} (hn : n ≤ 255) (run : BitVec 16) (next : Nat)
    (f : Option FrameId) (b : Bool) : ({ r with
      state := st, runNumber := run, nextStep := next, fillFrame := f, preemptCount := n, blocked := b } : Job).Sound := by
  obtain ⟨hm, hp, hr, hc, hpe, hpr, hdr, hl, hd, hstop, hpre, hpt, hdt, htd⟩ := h
  have hbusy : r.state.busy = true := by
    cases hs : r.state <;> simp [hs, JobState.queued, JobState.busy] at hq ⊢
  have hnone : r.state ≠ .stopping := fun hs => by simp [hs, JobState.queued] at hq
  have htaken : st.busy = true ∧ st.dispatched = true ∧ st ≠ .stopping ∧ st ≠ .preempted := by
    rcases hst with rfl | rfl <;> decide
  obtain ⟨hb, hdisp, hns, hnp⟩ := htaken
  refine ⟨hm, hn, hr, hc, hpe, hpr, hdr, fun _ => hb, fun hdp => ⟨hdisp, (hd hdp).2⟩, ?_, fun hs => absurd hs hnp, ?_,
    fun ht => ⟨(hdt ht).1, hb⟩, htd⟩
  · simpa [hns] using mt hstop.1 hnone
  · rw [Job.periodRuns_of_busy hbusy] at hpt
    rw [Job.periodRuns_of_busy hb]
    exact hpt

/-- The job aside takes the free converter, in RUNNING or in SETTLING (R7, R12, R32). -/
theorem State.AgreedBut.giveConverter {s : State} {j : JobId} (h : s.AgreedBut j) (hidle : s.engine.state = .idle)
    (hshape : s.engine.Shaped) (hsound : s.engine.Sound)
    (hr : ∀ st, st = .settling ∨ st = .running → ({ s.job j with state := st } : Job).Sound)
    (hnext : (s.job j).nextStep < (s.seqOf j).steps.length) : (s.giveConverter j).Good := by
  obtain ⟨hset, hstep⟩ := hshape.none_of_state (by simp [hidle]) (by simp [hidle])
  have hfail := hsound.failures_ne ⟨by simp [hidle], by simp [hidle]⟩
  unfold State.giveConverter
  split
  · rw [State.run_eq (List.getElem?_eq_getElem hnext)]
    refine ⟨(h.setJob (r := { s.job j with state := .running }) (by simp) rfl).start hset hstep ?_ ?_ ?_ _ _ _, ?_⟩
    · rw [State.setJob_job_same]
      exact hr _ (.inr rfl)
    · rw [State.setJob_job_same]
    · simpa [State.seqOf] using hnext
    · exact hsound.moved hfail (by simp [Engine.starting]) ⟨rfl, rfl, rfl, rfl, rfl⟩
  · refine ⟨(h.setJob (r := { s.job j with state := .settling }) (by simp) rfl).settle hset hstep ?_ ?_ ?_, ?_⟩
    · rw [State.setJob_job_same]
      exact hr _ (.inl rfl)
    · rw [State.setJob_job_same]
    · simpa [State.seqOf] using hnext
    · exact hsound.moved hfail (by simp) ⟨rfl, rfl, rfl, rfl, rfl⟩

section Selection
variable {s : State} {j : JobId} (h : s.Good) (hidle : s.engine.state = .idle) (hj : j ∈ s.queue)
include h hj

theorem State.Good.queued : (s.job j).state.queued = true := (h.agreed.jobs j).queued.1 hj

theorem State.Good.dequeued : (s.dequeue j).AgreedBut j :=
  h.agreed.but_of_dequeue (.inr ((JobState.queued_iff _).1 (h.queued hj)))

theorem State.Good.refuseRun : (s.refuseRun j).Good := by
  have hjob := h.agreed.jobs j
  have hq := h.queued hj
  have hbusy : (s.job j).state.busy = true := by
    cases hs : (s.job j).state <;> simp [hs, JobState.queued, JobState.busy] at hq ⊢
  have hstop : (s.job j).stopReason = none :=
    hjob.sound.stopReason_of_not_stopping fun hs => by simp [hs, JobState.queued] at hq
  have hending := (hjob.sound.ending hbusy (by simp [hstop])).renumbered ((s.job j).runNumber + 1) false (s.job j).fillFrame
  refine h.with_agreed ?_ (s.refuseRun_bookkept j).engine
  unfold State.refuseRun
  refine ((State.emit_sameSchedule ..).agreedBut ((h.dequeued hj).setJob ?_ ?_)).endRun ?_
  · rw [State.dequeue_job_same]
    intro hs
    simp [show (s.job j).state = .free from hs, JobState.queued] at hq
  · rw [State.dequeue_job_same]
  · rw [(State.emit_sameSchedule ..).job, State.setJob_job_same, State.dequeue_job_same]
    exact hending

include hidle

theorem State.Good.resumeRun (hs : (s.job j).state = .preempted) : (s.resumeRun j).Good := by
  have hjob := h.agreed.jobs j
  have haside := h.dequeued hj
  have hsel (next : Nat) (st : JobState) (hst : st = .settling ∨ st = .running) :=
    hjob.sound.selected (h.queued hj) hst hjob.sound.2.1 (s.job j).runNumber next (s.job j).fillFrame false
  have hpos : 0 < (s.seqOf j).steps.length := h.agreed.seqs.steps_pos (by simp [hs])
  have hrestart : ∀ t : State, (s.dequeue j).SameSchedule t →
      ((t.setJob j { t.job j with nextStep := 0 }).giveConverter j).Good := by
    intro t ht
    refine ((ht.agreedBut haside).setJob (r := { t.job j with nextStep := 0 }) ?_ rfl).giveConverter ?_ ?_ ?_
      (fun st hst => ?_) ?_
    · rw [ht.job, State.dequeue_job_same]
      simp [hs]
    · simpa [ht.engine] using hidle
    · simpa [ht.engine] using h.shaped
    · simpa [ht.engine] using h.engine
    · rw [State.setJob_job_same, ht.job, State.dequeue_job_same]
      exact hsel 0 st hst
    · simpa [State.seqOf, ht.job, ht.seqs] using hpos
  unfold State.resumeRun
  dsimp only
  split
  · refine haside.giveConverter ?_ ?_ ?_ (fun st hst => ?_) ?_
    · simpa using hidle
    · simpa using h.shaped
    · simpa using h.engine
    · rw [State.dequeue_job_same]
      exact hsel (s.job j).nextStep st hst
    · simpa [State.seqOf] using hjob.nextStep (.inr (.inr hs))
  · exact hrestart _ (.refl _)
  · exact hrestart _ (State.setFrame_sameSchedule ..)

theorem State.Good.startRun (f : FrameId) : (s.startRun j f).Good := by
  have hjob := h.agreed.jobs j
  have hnamed : (s.job j).state ≠ .free := fun hs => by
    have := h.queued hj
    simp [hs, JobState.queued] at this
  have hpos : 0 < (s.seqOf j).steps.length := h.agreed.seqs.steps_pos hnamed
  unfold State.startRun
  dsimp only
  generalize ht : (s.dequeue j).setJob j { (s.dequeue j).job j with
    runNumber := ((s.dequeue j).job j).runNumber + 1, fillFrame := some f, nextStep := 0, preemptCount := 0 } = t
  have haside : t.AgreedBut j := by
    rw [← ht]
    refine (h.dequeued hj).setJob ?_ rfl
    rw [State.dequeue_job_same]
    exact hnamed
  have hrecord : t.job j = { s.job j with
      blocked := false, runNumber := (s.job j).runNumber + 1, fillFrame := some f, nextStep := 0, preemptCount := 0 } := by
    rw [← ht, State.setJob_job_same, State.dequeue_job_same]
  have hengine : t.engine = s.engine := by rw [← ht, State.setJob_engine, State.dequeue_engine]
  have hseqs : t.seqs = s.seqs := by rw [← ht, State.setJob_seqs, State.dequeue_seqs]
  have hbeside : t.SameSchedule ((t.placeClaim j).tellHolds j) :=
    (t.setTransient_sameSchedule j _).trans ((t.placeClaim j).tellHolds_sameSchedule j)
  refine (hbeside.agreedBut haside).giveConverter ?_ ?_ ?_ (fun st hst => ?_) ?_
  · rw [hbeside.engine, hengine, hidle]
  · rw [hbeside.engine, hengine]
    exact h.shaped
  · rw [hbeside.engine, hengine]
    exact h.engine
  · rw [hbeside.job, hrecord]
    exact hjob.sound.selected (h.queued hj) hst (Nat.zero_le _) _ _ _ _
  · rw [hbeside.seqOf, hbeside.job, State.seqOf, hrecord, hseqs]
    exact hpos

end Selection

theorem State.Good.selectFrom (n : Nat) {s : State} (h : s.Good) (hidle : s.engine.state = .idle) :
    (State.selectFrom n s).Good := by
  induction n generalizing s with
  | zero => exact h
  | succ n ih =>
    unfold State.selectFrom
    split
    · exact h
    · rename_i j hj
      have hmem := List.mem_of_find?_eq_some hj
      split
      · exact h.resumeRun hidle hmem ‹_›
      · split
        · rename_i f rest _
          have ht := s.takeFrame_sameSchedule j f rest
          exact (ht.good h).startRun (by rw [ht.engine, hidle]) (by rw [ht.queue]; exact hmem) f
        · rename_i f rest _
          have ht := s.reclaimFrame_sameSchedule j f rest
          exact (ht.good h).startRun (by rw [ht.engine, hidle]) (by rw [ht.queue]; exact hmem) f
        · exact ih (h.refuseRun hmem) (by rw [(s.refuseRun_bookkept j).engine, hidle])

/-- A free decision that calibrates (R119). -/
theorem State.Good.startCalibration {s : State} (h : s.Good) (hfree : s.engine.state = .idle ∨ s.engine.state = .fault)
    (now : Time) : ({ s with engine := s.engine.startCalibration now } : State).Good := by
  have hnone : s.engine.settlingJob = none ∧ s.engine.step = none := by
    rcases hfree with hs | hs <;> exact h.shaped.none_of_state (by simp [hs]) (by simp [hs])
  obtain ⟨he, hr, hc, hf, _, _, hstale⟩ := h.engine
  refine .of ⟨fun k => (h.agreed.jobs k).congr (b := (s.job k).blocked) rfl .rfl .rfl .rfl fun _ => rfl,
    h.agreed.seqs.congr rfl rfl fun _ => ⟨.rfl, rfl⟩, h.agreed.nodup⟩ ?_ ⟨he, hr, hc, hf, ?_, ?_, hstale⟩
  · simp [Engine.Shaped, Engine.startCalibration, hnone]
  · simp [Engine.startCalibration]
  · simp [Engine.startCalibration]

theorem State.Good.freeDecision {s : State} (h : s.Good) : s.freeDecision.Good := by
  have hcleared : ({ s with decisionDue := false } : State).Good :=
    State.SameSchedule.good (s := s) ⟨rfl, rfl, rfl, rfl, rfl⟩ h
  have hengine : (State.refreshBlocked { s with decisionDue := false }).engine = s.engine :=
    (State.refreshBlocked_bookkept _).engine
  have hfresh : (State.refreshBlocked { s with decisionDue := false }).Good :=
    hcleared.with_agreed hcleared.agreed.refreshBlocked hengine
  unfold State.freeDecision
  dsimp only
  split
  · rename_i hs
    split
    · exact hfresh.startCalibration (by rw [hengine]; exact .inl hs) _
    · exact hfresh.selectFrom _ (by rw [hengine, hs])
  · rename_i hs
    split
    · exact hfresh.startCalibration (by rw [hengine]; exact .inr hs) _
    · exact hfresh
  all_goals exact h

/-! ## Arrivals, displacements and boundaries keep the schedule (R30, R35 to R41) -/

theorem State.Good.arrival {s : State} (h : s.Good) : s.arrival.Good := by
  unfold State.arrival
  split
  · exact h.freeDecision
  · exact h

/-- A dispatched ROUTINE job's record is sound in PREEMPTED. -/
theorem Job.Sound.preempted {r : Job} (h : r.Sound) (hs : r.state = .settling ∨ r.state = .running)
    (hc : r.cls = .routine) :
    ({ r with state := .preempted, preemptCount := saturate 255 r.preemptCount } : Job).Sound := by
  obtain ⟨hm, hp, hr, hcount, hpe, hpr, hdr, hl, hd, hstop, hpre, hpt, hdt, htd⟩ := h
  have hbusy : r.state.busy = true := by rcases hs with hs | hs <;> simp [hs, JobState.busy]
  have hnone : r.state ≠ .stopping := by rcases hs with hs | hs <;> simp [hs]
  refine ⟨hm, saturate_le .., hr, hcount, hpe, hpr, hdr, fun _ => rfl, fun hdp => ⟨rfl, (hd hdp).2⟩, ?_, fun _ => hc, ?_,
    fun ht => ⟨(hdt ht).1, rfl⟩, htd⟩
  · simpa using mt hstop.1 hnone
  · rw [Job.periodRuns_of_busy hbusy] at hpt
    rw [Job.periodRuns_of_busy (show JobState.preempted.busy = true from rfl)]
    exact hpt

/-- The job aside enters PREEMPTED. -/
theorem State.AgreedBut.preempt {s : State} {j : JobId} (h : s.AgreedBut j) (hr : (s.job j).Sound)
    (hs : (s.job j).state = .settling ∨ (s.job j).state = .running) (hc : (s.job j).cls = .routine)
    (hnext : (s.job j).nextStep < (s.seqOf j).steps.length) : (s.preempt j).Agreed := by
  unfold State.preempt
  refine (h.setJob (r := { s.job j with
    state := .preempted, preemptCount := saturate 255 (s.job j).preemptCount }) (by simp) rfl).enqueue ?_ ?_ fun _ => ?_
  · rw [State.setJob_job_same]
    exact hr.preempted hs hc
  · rw [State.setJob_job_same]
    rfl
  · rw [State.setJob_job_same]
    simpa [State.seqOf] using hnext

theorem State.preempt_releaseConverter (s : State) (j : JobId) :
    (s.preempt j).releaseConverter = s.releaseConverter.preempt j := rfl

theorem Engine.Sound.released {e : Engine} (h : e.Sound) (hs : e.state ≠ .fault ∧ e.state ≠ .calibrating) :
    e.released.Sound := h.moved (h.failures_ne hs) (by simp [Engine.released]) ⟨rfl, rfl, rfl, rfl, rfl⟩

theorem Engine.released_shaped (e : Engine) : e.released.Shaped := by simp [Engine.Shaped, Engine.released]

theorem State.Good.displace {s : State} (h : s.Good) : s.displace.Good := by
  unfold State.displace
  split
  · exact h
  · rename_i k hk
    obtain ⟨hs, hj, hc⟩ := (s.settlingRoutine_eq_some_iff k).1 hk
    have hjob := h.agreed.jobs k
    have hset := hjob.settling.2 hj
    refine State.Good.freeDecision (.of ?_ s.engine.released_shaped (h.engine.released (by simp [hs])))
    rw [State.preempt_releaseConverter]
    exact (h.scheduled.but_of_settling hset).preempt hjob.sound (.inl hset) hc (hjob.nextStep (.inl hset))

theorem State.Good.entryArrival {s : State} (h : s.Good) (c : JobClass) : (s.entryArrival c).Good := by
  unfold State.entryArrival
  split
  · exact h.displace
  · exact h.arrival

theorem State.Good.intervalArrival {s : State} (h : s.Good) : s.intervalArrival.Good := by
  unfold State.intervalArrival
  split
  · exact h.displace
  · exact h.arrival

end Sys2Proof.Machine

namespace Sys2Proof.Machine

/-! ## The Sequence Store: references and step entries (R98, R103) -/

/-- A record that is not FREE names a sequence. -/
def Job.names (r : Job) (k : SeqId) : Bool := r.state != .free && r.seq == k

theorem State.namers_eq_countP (s : State) (k : SeqId) : s.namers k = allJobs.countP fun i => (s.job i).names k := by
  rw [List.countP_eq_length_filter]
  rfl

/-- One record's change in the number of jobs that name a sequence. -/
theorem State.namers_setJob (s : State) (j : JobId) (r : Job) (k : SeqId) :
    (s.setJob j r).namers k + (if (s.job j).names k then 1 else 0) = s.namers k + if r.names k then 1 else 0 := by
  have hothers : (allJobs.erase j).countP (fun i => ((s.setJob j r).job i).names k) =
      (allJobs.erase j).countP fun i => (s.job i).names k :=
    countP_erase_congr fun i hi => by rw [State.setJob_job, if_neg hi]
  rw [State.namers_eq_countP, State.namers_eq_countP, countP_allJobs _ j, countP_allJobs (fun i => (s.job i).names k) j,
    hothers, State.setJob_job_same]
  omega

theorem Job.names_iff (r : Job) (k : SeqId) : r.names k = true ↔ r.state ≠ .free ∧ r.seq = k := by simp [Job.names]

theorem State.seq_ne_of_namers {s : State} {k : SeqId} (h : s.namers k = 0) {j : JobId} (hs : (s.job j).state ≠ .free) :
    (s.job j).seq ≠ k := by
  rintro rfl
  have := s.namers_pos hs
  omega

/-- The step entries that the records of the Sequence Store hold (R98). -/
def stepsHeld (seqs : Table Seq 32) : Nat := (allSeqs.map fun k => (seqs.at k).steps.length).sum

theorem State.poolSound_iff (s : State) : s.PoolSound ↔ s.freeSteps + stepsHeld s.seqs = 256 := .rfl

theorem allSeqs_eq_finRange : allSeqs = List.finRange 32 := rfl

theorem stepsHeld_put (seqs : Table Seq 32) (k : SeqId) (r : Seq) :
    stepsHeld (seqs.put k r) + (seqs.at k).steps.length = stepsHeld seqs + r.steps.length := by
  have hk : k ∈ allSeqs := by simp [allSeqs_eq_finRange]
  have hnodup : allSeqs.Nodup := by
    rw [allSeqs_eq_finRange]
    exact List.nodup_finRange 32
  have hothers : (allSeqs.erase k).map (fun i => ((seqs.put k r).at i).steps.length) =
      (allSeqs.erase k).map fun i => (seqs.at i).steps.length :=
    List.map_congr_left fun i hi => by
      rw [Table.at_put_of_ne _ _ ((hnodup.mem_erase_iff.1 hi).1)]
  have hnew := List.sum_map_erase (fun i => ((seqs.put k r).at i).steps.length) hk
  have hold := List.sum_map_erase (fun i => (seqs.at i).steps.length) hk
  simp only [Table.at_put_same, hothers] at hnew
  unfold stepsHeld
  omega

/-- What the Sequence Store requires of one record with a given number of naming jobs (R93, R103). -/
def Seq.SoundFor (q : Seq) (namers : Nat) : Prop :=
  q.refCount = namers ∧ (q.defined = false → q.steps = [] ∧ namers = 0) ∧
  (q.defined = true → 1 ≤ q.steps.length ∧ q.steps.length ≤ 16) ∧
  (q.defined = true → q.owner = none → 0 < namers)

theorem State.seqSound_iff (s : State) (k : SeqId) : s.SeqSound k ↔ (s.seqs.at k).SoundFor (s.namers k) := .rfl

theorem Seq.free_soundFor : Seq.free.SoundFor 0 := ⟨rfl, fun _ => ⟨rfl, rfl⟩, by simp [Seq.free], by simp [Seq.free]⟩

/-- One record of the Sequence Store is replaced, together with the pool's count. -/
theorem State.SequencesSound.put {s t : State} (h : s.SequencesSound) {k : SeqId} {r : Seq}
    (hseqs : t.seqs = s.seqs.put k r) (hothers : ∀ i, i ≠ k → t.namers i = s.namers i) (hr : r.SoundFor (t.namers k))
    (hpool : t.freeSteps + r.steps.length = s.freeSteps + (s.seqs.at k).steps.length) : t.SequencesSound := by
  refine ⟨fun i => ?_, ?_⟩
  · rw [State.seqSound_iff, hseqs]
    by_cases hi : i = k
    · subst hi
      rwa [Table.at_put_same]
    · rw [Table.at_put_of_ne _ _ hi, hothers i hi]
      exact h.1 i
  · have := (s.poolSound_iff.1 h.2)
    have := stepsHeld_put s.seqs k r
    rw [State.poolSound_iff, hseqs]
    omega

/-- A record that no job names is replaced: a definition or a deletion (R100, R101). -/
theorem State.Agreed.replaceSeq {s t : State} (h : s.Agreed) {k : SeqId} {r : Seq} (hnone : s.namers k = 0)
    (hseqs : t.seqs = s.seqs.put k r) (hjobs : t.jobs = s.jobs) (hqueue : t.queue = s.queue) (hengine : t.engine = s.engine)
    (hr : r.SoundFor 0) (hpool : t.freeSteps + r.steps.length = s.freeSteps + (s.seqs.at k).steps.length) : t.Agreed := by
  have hjob (i : JobId) : t.job i = s.job i := by rw [State.job, hjobs, State.job]
  have hnamers (i : SeqId) : t.namers i = s.namers i := State.namers_congr (fun i => by rw [hjob]; exact ⟨.rfl, rfl⟩) i
  refine ⟨fun i => (h.jobs i).congr (b := (s.job i).blocked) (hjob i) (by rw [hqueue]) (by rw [hengine])
    (by rw [hengine]) fun hs => ?_, h.seqs.put hseqs (fun i _ => hnamers i) ?_ hpool, by rw [hqueue]; exact h.nodup⟩
  · rw [hseqs, Table.at_put_of_ne _ _ (State.seq_ne_of_namers hnone hs)]
  · rw [hnamers, hnone]
    exact hr

/-- A record changes but for its steps, and stays sound for the jobs that name it. -/
theorem State.Agreed.relabelSeq {s : State} (h : s.Agreed) {k : SeqId} {r : Seq}
    (hsteps : r.steps = (s.seqs.at k).steps) (hr : r.SoundFor (s.namers k)) : (s.setSeq k r).Agreed := by
  refine ⟨fun i => (h.jobs i).congr (b := (s.job i).blocked) rfl .rfl .rfl .rfl fun _ => ?_,
    h.seqs.put rfl (fun _ _ => rfl) hr ?_, h.nodup⟩
  · rw [State.setSeq_seqs, Table.at_put]
    split
    · rename_i hi
      rw [hsteps, hi]
    · rfl
  · rw [hsteps]
    rfl

/-! ### Job records freed and created (R4, R20) -/

theorem Job.free_sound : Job.free.Sound := by
  refine ⟨by decide, by decide, by decide, ?_, by decide, ?_, ?_, ?_, ?_, ?_, ?_, ?_, ?_, ?_⟩ <;>
    simp [Job.free, Job.periodRuns]

/-- A sequence record that has lost a reference; an orphan without references is freed (R103). -/
def Seq.dropped (q : Seq) : Seq :=
  if q.owner = none ∧ q.refCount ≤ 1 then Seq.free else { q with refCount := q.refCount - 1 }

theorem Seq.SoundFor.defined {q : Seq} {n : Nat} (h : q.SoundFor (n + 1)) : q.defined = true := by
  obtain ⟨_, hundef, _⟩ := h
  cases hd : q.defined with
  | true => rfl
  | false => exact absurd (hundef hd).2 (by omega)

theorem Seq.SoundFor.dropped {q : Seq} {n : Nat} (h : q.SoundFor (n + 1)) : q.dropped.SoundFor n := by
  have hdefined := h.defined
  obtain ⟨hcount, _, hlen, _⟩ := h
  unfold Seq.dropped
  split
  · have hzero : n = 0 := by omega
    rw [hzero]
    exact Seq.free_soundFor
  · rename_i hkept
    refine ⟨by simp only; omega, fun hd => absurd hdefined (by simp [show q.defined = false from hd]), hlen,
      fun _ howner => ?_⟩
    by_contra hzero
    exact hkept ⟨howner, by omega⟩

/-- The job aside returns its record (R20). -/
theorem State.AgreedBut.freeJob {s : State} {j : JobId} (h : s.AgreedBut j) : (s.freeJob j).Agreed := by
  have hseqs : (s.freeJob j).seqs = s.seqs.put (s.job j).seq (s.seqOf j).dropped := by rw [State.freeJob_eq]; rfl
  have hqueue : (s.freeJob j).queue = s.queue := by rw [State.freeJob_eq]
  have hengine : (s.freeJob j).engine = s.engine := by rw [State.freeJob_eq]
  have hjob (i : JobId) : (s.freeJob j).job i = if i = j then Job.free else s.job i := by
    rw [State.freeJob_eq]
    exact Table.at_put ..
  have hnamers (k : SeqId) : (s.freeJob j).namers k = (s.setJob j Job.free).namers k :=
    State.namers_congr (fun i => by rw [hjob, State.setJob_job]; exact ⟨.rfl, rfl⟩) k
  have hcount (k : SeqId) := s.namers_setJob j Job.free k
  simp only [show ∀ k, Job.free.names k = false from fun k => by simp [Job.names, Job.free], ← hnamers] at hcount
  have hown : s.namers (s.job j).seq = (s.freeJob j).namers (s.job j).seq + 1 := by
    have := hcount (s.job j).seq
    simpa [(Job.names_iff _ _).2 ⟨h.named, rfl⟩] using this.symm
  refine ⟨fun i => ?_, h.seqs.put hseqs (fun k hk => ?_) ?_ ?_, by rw [hqueue]; exact h.nodup⟩
  · by_cases hi : i = j
    · subst hi
      have hfree : (s.freeJob i).job i = Job.free := by rw [hjob, if_pos rfl]
      refine ⟨?_, ?_, ?_, ?_, ?_⟩ <;> rw [hfree]
      · exact Job.free_sound
      · simpa [hqueue, Job.free, JobState.queued] using h.notQueued
      · simpa [hengine, Job.free] using h.notSettling
      · simpa [hengine, Job.free] using h.notConverting
      · simp [Job.free]
    · refine (h.others i hi).congr (b := (s.job i).blocked) (by rw [hjob, if_neg hi]) (by rw [hqueue]) (by rw [hengine])
        (by rw [hengine]) fun hs => ?_
      rw [hseqs, Table.at_put]
      split
      · rename_i hk
        have hleft : 0 < (s.freeJob j).namers (s.job j).seq := by
          have := State.namers_pos (s := s.freeJob j) (j := i) (by rw [hjob, if_neg hi]; exact hs)
          rwa [hjob, if_neg hi, hk] at this
        have hne : ¬ ((s.seqOf j).owner = none ∧ (s.seqOf j).refCount ≤ 1) := by
          have hrefs : (s.seqOf j).refCount = s.namers (s.job j).seq := (h.seqs.1 (s.job j).seq).1
          omega
        rw [Seq.dropped, if_neg hne, State.seqOf, hk]
      · rfl
  · have := hcount k
    have hk' : (s.job j).names k ≠ true := fun hn => hk ((Job.names_iff _ _).1 hn).2.symm
    simpa [hk'] using this
  · have := h.seqs.1 (s.job j).seq
    rw [State.seqSound_iff, hown] at this
    exact this.dropped
  · rw [State.freeJob_eq]
    dsimp only
    unfold Seq.dropped
    change _ = s.freeSteps + (s.seqOf j).steps.length
    unfold State.seqOf
    split <;> simp [Seq.free]

/-- A FREE record is filled for a sequence that is DEFINED (R4). -/
theorem State.Agreed.create {s : State} (h : s.Agreed) {j : JobId} (hfree : (s.job j).state = .free) (host : HostId)
    {a : JobArgs} (ha : (newJob host a).Sound) (hdefined : (s.seqs.at a.seq).defined = true) :
    (s.create host a j).Agreed := by
  have hjob (i : JobId) : (s.create host a j).job i = if i = j then newJob host a else s.job i := Table.at_put ..
  have hnames (k : SeqId) : (newJob host a).names k = decide (a.seq = k) := rfl
  have hnamers (k : SeqId) : (s.create host a j).namers k = s.namers k + if a.seq = k then 1 else 0 := by
    have := s.namers_setJob j (newJob host a) k
    rw [hnames, show (s.job j).names k = false by simp [Job.names, hfree]] at this
    rw [← State.namers_congr (s := s.setJob j (newJob host a)) (t := s.create host a j)
      (fun i => by rw [hjob, State.setJob_job]; exact ⟨.rfl, rfl⟩)] at this
    simpa using this
  have hj := h.jobs j
  have hplace : (s.job j).state.place = .free := (JobState.place_eq_free_iff _).2 hfree
  have haside : (s.create host a j).AgreedBut j := by
    refine ⟨fun i hi => (h.jobs i).congr (b := (s.job i).blocked) (by rw [hjob, if_neg hi]) .rfl .rfl .rfl fun _ => ?_,
      h.seqs.put rfl (fun k hk => ?_) ?_ rfl, h.nodup, ?_, ?_, ?_, ?_⟩
    · change ((s.seqs.put a.seq _).at _).steps = _
      rw [Table.at_put]
      split
      · rename_i hk
        rw [hk]
      · rfl
    · rw [hnamers, if_neg (Ne.symm hk)]
      rfl
    · obtain ⟨hcount, hundef, hlen, hown⟩ := h.seqs.1 a.seq
      rw [hnamers, if_pos rfl]
      exact ⟨by simp only [hcount], fun hd => absurd hdefined (by simp [show (s.seqs.at a.seq).defined = false from hd]),
        hlen, fun _ _ => by omega⟩
    · change j ∉ s.queue
      rw [hj.queued, JobState.queued_iff, hplace]
      decide
    · change s.engine.settlingJob ≠ some j
      rw [ne_eq, ← hj.settling, hfree]
      decide
    · change s.engine.step.map StepInProgress.job ≠ some j
      rw [ne_eq, ← hj.converting, hfree]
      decide
    · rw [hjob, if_pos rfl]
      simp [newJob]
  refine haside.rest ?_ ?_ <;> rw [hjob, if_pos rfl]
  · exact ha
  · rfl

end Sys2Proof.Machine

namespace Sys2Proof.Machine

/-! ## Records rewritten where they stand -/

section Update
variable {s : State} {j : JobId} (h : s.Good)
include h

/-- A record changes where it stands, with its next step kept unless it stops or is at rest. -/
theorem State.Good.setJob {r : Job} (hr : r.Sound) (hs : r.state.place = (s.job j).state.place)
    (hseq : r.seq = (s.job j).seq)
    (hnext : (r.nextStep = (s.job j).nextStep ∧ r.state = (s.job j).state) ∨ r.state = .stopping ∨
      r.state.place = .rest) : (s.setJob j r).Good := by
  refine h.with_agreed (h.agreed.setJob hr hs hseq fun hn => ?_) rfl
  rcases hnext with ⟨hstep, hstate⟩ | hst | hplace
  · rw [hstep]
    exact (h.agreed.jobs j).nextStep (hstate ▸ hn)
  · simp [hst] at hn
  · rcases hn with hn | hn | hn <;> simp [hn, JobState.place] at hplace

theorem State.Good.sound (j : JobId) : (s.job j).Sound := (h.agreed.jobs j).sound

end Update

theorem Job.Sound.unlatched {r : Job} (h : r.Sound) : ({ r with latch := none } : Job).Sound := by
  obtain ⟨hm, hp, hr, hc, hpe, hpr, hdr, hl, hd, hst, hpre, hpt, hdt, htd⟩ := h
  exact ⟨hm, hp, hr, hc, hpe, hpr, hdr, by simp, fun hdp => ⟨(hd hdp).1, rfl⟩, hst, hpre, hpt, hdt, htd⟩

theorem Job.Sound.latched {r : Job} (h : r.Sound) (hb : r.state.busy = true) (hd : r.disarmPending = false)
    (stamp : Time) : ({ r with latch := some stamp } : Job).Sound := by
  obtain ⟨hm, hp, hr, hc, hpe, hpr, hdr, hl, _, hst, hpre, hpt, hdt, htd⟩ := h
  exact ⟨hm, hp, hr, hc, hpe, hpr, hdr, fun _ => hb, by simp [hd], hst, hpre, hpt, hdt, htd⟩

theorem Job.Sound.missing {r : Job} (h : r.Sound) : ({ r with missed := saturate 255 r.missed } : Job).Sound := by
  obtain ⟨_, hp, hr, hc, hpe, hpr, hdr, hl, hd, hst, hpre, hpt, hdt, htd⟩ := h
  exact ⟨saturate_le .., hp, hr, hc, hpe, hpr, hdr, hl, hd, hst, hpre, hpt, hdt, htd⟩

/-- A run stops: the step in progress goes on in STOPPING (R16, R17). -/
theorem Job.Sound.stopping {r : Job} (h : r.Sound) (hs : r.state = .running ∨ r.state = .stopping) {reason : StopReason}
    (hreason : reason ≠ .teardown) (ht : r.stopReason ≠ some .teardown) :
    ({ r with state := .stopping, stopReason := some reason } : Job).Sound := by
  obtain ⟨hm, hp, hr, hc, hpe, hpr, hdr, hl, hd, hst, hpre, hpt, hdt, htd⟩ := h
  have hbusy : r.state.busy = true := by rcases hs with hs | hs <;> simp [hs, JobState.busy]
  refine ⟨hm, hp, hr, hc, hpe, hpr, hdr, fun _ => rfl, fun hdp => ⟨rfl, (hd hdp).2⟩, by simp, by simp, ?_,
    fun hdt' => ⟨(hdt hdt').1, rfl⟩, fun hr' => absurd (Option.some.inj hr') hreason⟩
  rw [Job.periodRuns_of_busy hbusy] at hpt
  rw [Job.periodRuns_of_busy (show JobState.stopping.busy = true from rfl), hpt, bne_iff_ne.2 ht,
    bne_iff_ne.2 fun he => hreason (Option.some.inj he)]

/-- A torn-down run: its timers stop (R23, R84, R91). -/
theorem Job.Sound.tornDown {r : Job} (h : r.Sound) :
    ({ r with state := .stopping, stopReason := some .teardown, periodTimer := none, deadlineTimer := none } :
      Job).Sound := by
  obtain ⟨hm, hp, hr, hc, hpe, hpr, hdr, hl, hd, hst, hpre, hpt, hdt, htd⟩ := h
  exact ⟨hm, hp, hr, hc, hpe, hpr, hdr, fun _ => rfl, fun hdp => ⟨rfl, (hd hdp).2⟩, by simp, by simp,
    by simp [Job.periodRuns], by simp, fun _ => rfl⟩

/-- A busy run's deadline timer is used up, and its fill frame returned. -/
theorem Job.Sound.released {r : Job} (h : r.Sound) (f : Option FrameId) :
    ({ r with fillFrame := f, deadlineTimer := none } : Job).Sound := by
  obtain ⟨hm, hp, hr, hc, hpe, hpr, hdr, hl, hd, hst, hpre, hpt, hdt, htd⟩ := h
  exact ⟨hm, hp, hr, hc, hpe, hpr, hdr, hl, hd, hst, hpre, hpt, by simp, fun _ => rfl⟩

/-! ## Triggers keep the schedule (R86, R87) -/

theorem Job.onTrigger_queued {r : Job} (h : r.onTrigger = .queued) : r.state = .armed := by
  unfold Job.onTrigger at h
  split at h
  · assumption
  all_goals grind

theorem Job.onTrigger_latched {r : Job} (h : r.onTrigger = .latched) : r.busyNow = true ∧ r.disarmPending = false := by
  unfold Job.onTrigger at h
  grind

theorem Job.busy_of_busyNow {r : Job} (h : r.busyNow = true) : r.state.busy = true := by
  cases hs : r.state <;> simp [Job.busyNow, hs, JobState.busy] at h ⊢

theorem State.Good.missTrigger {s : State} (h : s.Good) (j : JobId) (source : TriggerSource) (stamp : Time) :
    (s.missTrigger j source stamp).Good := by
  have hset : (s.setJob j { s.job j with missed := saturate 255 (s.job j).missed }).Good :=
    h.setJob (h.sound j).missing rfl rfl (.inl ⟨rfl, rfl⟩)
  unfold State.missTrigger
  dsimp only
  split
  · exact (State.emit_sameSchedule ..).good hset
  · exact hset

/-- A job in ARMED takes a trigger and enters the queue. -/
theorem State.Good.enterPending {s : State} (h : s.Good) {j : JobId} (hs : (s.job j).state = .armed) (stamp : Time)
    (mark : Option EdgeMark) : ((s.enterPending j stamp mark).expireAtOnce j).Good := by
  refine h.with_agreed ?_ ((s.enterPending_bookkept j stamp mark).trans (State.expireAtOnce_bookkept _ j)).engine
  exact (h.agreed.but_of_rest (by rw [hs]; rfl)).enterTriggered (h.sound j) hs rfl stamp mark

theorem State.Good.takeTriggerThen {s : State} (h : s.Good) {entered : State → State}
    (hentered : ∀ t : State, t.Good → (entered t).Good) (j : JobId) (source : TriggerSource) (stamp : Time)
    (mark : Option EdgeMark) : (State.takeTriggerThen entered s j source stamp mark).Good := by
  unfold State.takeTriggerThen
  split
  · exact hentered _ (h.enterPending (Job.onTrigger_queued ‹_›) stamp mark)
  · obtain ⟨hb, hd⟩ := Job.onTrigger_latched ‹_›
    exact h.setJob ((h.sound j).latched (Job.busy_of_busyNow hb) hd stamp) rfl rfl (.inl ⟨rfl, rfl⟩)
  · exact h.missTrigger j source stamp
  · exact h

theorem State.Good.takeTrigger {s : State} (h : s.Good) (j : JobId) (source : TriggerSource) (stamp : Time)
    (mark : Option EdgeMark) : (s.takeTrigger j source stamp mark).Good :=
  h.takeTriggerThen (fun _ ht => ht.entryArrival _) j source stamp mark

theorem State.Good.edgeEntry {s : State} (h : s.Good) (p : Presentation) (c : JobClass) : (s.edgeEntry p c).Good := by
  unfold State.edgeEntry
  split
  · split
    · exact State.SameSchedule.good (s := s) ⟨rfl, rfl, rfl, rfl, rfl⟩ h
    · exact (s.drawn_sameSchedule.good h).freeDecision
  · exact h.entryArrival c

theorem State.Good.settleDecision {s : State} (h : s.Good) (p : Presentation) : (s.settleDecision p).Good := by
  unfold State.settleDecision
  split
  · exact h.freeDecision
  · exact h

theorem State.Good.present {s : State} (h : s.Good) (o : Origin) : (s.present o).Good := by
  unfold State.present
  split
  · exact h
  · have ht (waiting : List Presentation) : ({ s with waiting := waiting } : State).Good :=
      State.SameSchedule.good (s := s) ⟨rfl, rfl, rfl, rfl, rfl⟩ h
    exact ((ht _).takeTriggerThen (fun _ hu => hu.edgeEntry _ _) _ _ _ _).settleDecision _

theorem Job.Sound.nextPeriod {r : Job} (h : r.Sound) {e : Time} (he : r.periodTimer = some e) :
    ({ r with periodTimer := r.period.map (after e) } : Job).Sound := by
  obtain ⟨hm, hp, hr, hc, hpe, hpr, hdr, hl, hd, hst, hpre, hpt, hdt, htd⟩ := h
  refine ⟨hm, hp, hr, hc, hpe, hpr, hdr, hl, hd, hst, hpre, ?_, hdt, htd⟩
  have hruns : r.periodRuns = true := by rw [← hpt, he, Option.isSome_some]
  have hsource : r.source = .period := by
    simp only [Job.periodRuns, Bool.and_eq_true, beq_iff_eq] at hruns
    exact hruns.1.1
  rw [Option.isSome_map, hpe.2 hsource]
  exact hruns.symm

theorem State.Good.periodTrigger {s : State} (h : s.Good) (j : JobId) : (s.periodTrigger j).Good := by
  unfold State.periodTrigger
  split
  · exact h
  · split
    · exact (h.setJob ((h.sound j).nextPeriod ‹_›) rfl rfl (.inl ⟨rfl, rfl⟩)).takeTrigger ..
    · exact h

/-! ## Runs that end (R13, R16, R17, R18) -/

theorem State.releaseFill_sameSchedule (s : State) (j : JobId) :
    (s.setJob j { s.job j with fillFrame := none }).SameSchedule (s.releaseFill j) := by
  unfold State.releaseFill
  split
  · rename_i hf
    have hself : ({ s.job j with fillFrame := none } : Job) = s.job j := by rw [← hf]
    rw [hself]
    exact ⟨(Table.put_at ..).symm, rfl, rfl, rfl, rfl⟩
  · exact ⟨rfl, rfl, rfl, rfl, rfl⟩

/-- For the schedule, a run that holds nothing any more has lost its frame and its deadline timer. -/
theorem State.releaseRun_sameSchedule (s : State) (j : JobId) :
    (s.setJob j { s.job j with fillFrame := none, deadlineTimer := none }).SameSchedule (s.releaseRun j) := by
  have hfill := s.releaseFill_sameSchedule j
  have hbeside : (((s.releaseFill j).removeClaim j).cancelDeadline j).SameSchedule (s.releaseRun j) :=
    State.vacate_sameSchedule _ j
  refine State.SameSchedule.trans (t := ((s.releaseFill j).removeClaim j).cancelDeadline j) ?_ hbeside
  have hjob : (s.releaseFill j).job j = { s.job j with fillFrame := none } := by rw [hfill.job, State.setJob_job_same]
  refine ⟨?_, hfill.seqs, hfill.freeSteps, hfill.queue, hfill.engine⟩
  change (s.releaseFill j).jobs.put j { (s.releaseFill j).job j with deadlineTimer := none } = _
  rw [hjob, hfill.jobs, State.setJob_jobs, State.setJob_jobs, Table.put_put]

theorem State.releaseRun_job_same (s : State) (j : JobId) :
    (s.releaseRun j).job j = { s.job j with fillFrame := none, deadlineTimer := none } := by
  rw [(s.releaseRun_sameSchedule j).job, State.setJob_job_same]

theorem State.releaseRun_engine (s : State) (j : JobId) : (s.releaseRun j).engine = s.engine :=
  (s.releaseRun_sameSchedule j).engine

theorem State.Good.releaseRun {s : State} (h : s.Good) (j : JobId) : (s.releaseRun j).Good :=
  (s.releaseRun_sameSchedule j).good (h.setJob ((h.sound j).released none) rfl rfl (.inl ⟨rfl, rfl⟩))

theorem State.AgreedBut.releaseRun {s : State} {j : JobId} (h : s.AgreedBut j) : (s.releaseRun j).AgreedBut j :=
  (s.releaseRun_sameSchedule j).agreedBut
    (h.setJob (r := { s.job j with fillFrame := none, deadlineTimer := none }) h.named rfl)

/-- An aborted run's record at rest is sound, but for the latch that it may still hold (R17). -/
theorem Job.Sound.aborted {r : Job} (h : r.Sound) (hb : r.state.busy = true) (ht : r.stopReason ≠ some .teardown)
    (hd : r.deadlineTimer = none) : ({ r.aborted with latch := none } : Job).Sound := by
  obtain ⟨hm, hp, hr, hc, hpe, hpr, hdr, hl, _, hst, hpre, hpt, hdt, htd⟩ := h
  rw [Job.periodRuns_of_busy hb] at hpt
  unfold Job.aborted
  split
  · exact ⟨hm, hp, hr, hc, hpe, hpr, hdr, by simp, by simp, by simp, by simp, by simp [Job.periodRuns, JobState.busy],
      by simp [hd], by simp⟩
  · rename_i hdp
    refine ⟨hm, hp, hr, hc, hpe, hpr, hdr, by simp, fun hdp' => absurd hdp' hdp, by simp, by simp, ?_, by simp [hd],
      by simp⟩
    rw [hpt, bne_iff_ne.2 ht]
    simp [Job.periodRuns]

theorem Job.aborted_place (r : Job) : r.aborted.state.place = .rest := by
  unfold Job.aborted
  split <;> rfl

theorem Job.aborted_seq (r : Job) : r.aborted.seq = r.seq := by
  unfold Job.aborted
  split <;> rfl

theorem Job.aborted_latch (r : Job) : r.aborted.latch = r.latch := by
  unfold Job.aborted
  split <;> rfl

theorem Job.Sound.latch_of_disarmPending {r : Job} (h : r.Sound) (hd : r.disarmPending = true) : r.latch = none := by
  obtain ⟨_, _, _, _, _, _, _, _, hdp, _⟩ := h
  exact (hdp hd).2

section Ends
variable {s : State} {j : JobId} (h : s.AgreedBut j)
include h

/-- The job aside, in a state of a run in hand, ends aborted with a latch it may hold dropped. -/
theorem State.AgreedBut.endAborted (hr : (s.job j).Sound) (hb : (s.job j).state.busy = true)
    (ht : (s.job j).stopReason ≠ some .teardown) (hd : (s.job j).deadlineTimer = none) (hl : (s.job j).latch = none) :
    (s.endAborted j).Agreed := by
  have hsound := hr.aborted hb ht hd
  have hself : ({ (s.job j).aborted with latch := none } : Job) = (s.job j).aborted := by
    rw [← hl, ← Job.aborted_latch]
  rw [hself] at hsound
  unfold State.endAborted State.reportAbort
  refine (State.emit_sameSchedule ..).agreed ((h.setJob ?_ (Job.aborted_seq _)).rest ?_ ?_)
  · rw [ne_eq, ← JobState.place_eq_free_iff, Job.aborted_place]
    decide
  · rw [State.setJob_job_same]
    exact hsound
  · rw [State.setJob_job_same, Job.aborted_place]

theorem State.AgreedBut.exitAborted (hr : (s.job j).Sound) (hb : (s.job j).state.busy = true)
    (ht : (s.job j).stopReason ≠ some .teardown) (hd : (s.job j).deadlineTimer = none) : (s.exitAborted j).Agreed := by
  have hjob : (s.endAborted j).job j = (s.job j).aborted := by
    rw [State.endAborted, State.reportAbort, State.emit_job, State.setJob_job_same]
  have hlatch : ((s.endAborted j).job j).latch = (s.job j).latch := by rw [hjob, Job.aborted_latch]
  unfold State.exitAborted
  dsimp only
  split
  · rename_i stamp hl
    have harmed : ((s.endAborted j).job j).state = .armed := by
      have hdp : (s.job j).disarmPending = false := by
        rw [Bool.eq_false_iff]
        intro hdp
        rw [hlatch, hr.latch_of_disarmPending hdp] at hl
        cases hl
      rw [hjob, Job.aborted_eq, hdp]
      rfl
    rw [if_pos harmed]
    have haside : (s.endAborted j).AgreedBut j := by
      refine (State.emit_sameSchedule ..).agreedBut (h.setJob ?_ (Job.aborted_seq _))
      rw [ne_eq, ← JobState.place_eq_free_iff, Job.aborted_place]
      decide
    refine haside.enterTriggered (r := { (s.endAborted j).job j with latch := none }) ?_ harmed rfl stamp none
    rw [hjob]
    exact hr.aborted hb ht hd
  · rename_i hl
    exact h.endAborted hr hb ht hd (by rw [← hlatch, hl])

end Ends

end Sys2Proof.Machine

namespace Sys2Proof.Machine

/-! ## The completion of a step (R10, R13, R18, R111) -/

theorem State.writeSample_sameSchedule (s : State) (j : JobId) (p : StepInProgress) (code : BitVec 12) (stale : Bool)
    (zone : Zone) : s.SameSchedule (s.writeSample j p code stale zone) := by
  unfold State.writeSample
  split
  · exact .refl s
  · exact s.setFrame_sameSchedule ..

theorem State.judge_sameSchedule (s : State) (j : JobId) (ref : Option WindowId) (index : Nat) (channel : Channel)
    (code : BitVec 12) : s.SameSchedule (s.judge j ref index channel code) := by
  have hlimit (w : WindowId) (zone : Zone) : s.SameSchedule (s.reportLimit j w index channel code zone) :=
    .ite (s.emit_sameSchedule ..) (.refl s)
  have hevent (t : State) (w : Window) (zone : Zone) : t.SameSchedule (t.windowEvent w zone) := by
    unfold State.windowEvent
    split
    · exact .refl t
    · exact .ite ⟨rfl, rfl, rfl, rfl, rfl⟩ (.refl t)
  unfold State.judge
  split
  · exact .refl s
  · exact .ite (((hlimit _ _).trans (hevent _ _ _)).trans (State.setWindow_sameSchedule ..)) (.refl s)

/-- For the schedule, a delivered run has lost its fill frame. -/
theorem State.deliver_sameSchedule (s : State) (j : JobId) :
    (s.setJob j { s.job j with fillFrame := none }).SameSchedule (s.deliver j) := by
  unfold State.deliver
  dsimp only
  split
  · rename_i hf
    have hself : ({ s.job j with fillFrame := none } : Job) = s.job j := by rw [← hf]
    rw [hself]
    exact ⟨(Table.put_at ..).symm, rfl, rfl, rfl, rfl⟩
  · exact ⟨rfl, rfl, rfl, rfl, rfl⟩

/-- The record of a run in progress, as the run's last steps change it, may end. -/
theorem Job.Ending.advanced {r : Job} (h : r.Ending) (next : Nat) (f : Option FrameId) :
    ({ r with nextStep := next, fillFrame := f } : Job).Ending :=
  ⟨h.missed, h.preemptCount, h.runsRemaining, h.count, h.period, h.periodRange, h.deadlineRange, h.periodTimer,
    h.deadlineTimer⟩

/-- The converter after its step: nothing settles and no step is in progress, while it has not been released yet. -/
structure Engine.Stepped (e : Engine) : Prop where
  settlingJob : e.settlingJob = none
  step : e.step = none
  state : e.state = .converting
  sound : e.Sound

/-- The converter is released to an agreement of the other blocks. -/
theorem State.Agreed.releaseConverter {s : State} (h : s.Agreed) (he : s.engine.Stepped) : s.releaseConverter.Good :=
  ⟨h.released he.settlingJob he.step, he.sound.released (by simp [he.state])⟩

/-- The job aside, whose step has completed, completes its run (R13). -/
theorem State.AgreedBut.completeRun {s : State} {j : JobId} (h : s.AgreedBut j) (he : s.engine.Stepped)
    (hr : ({ s.job j with deadlineTimer := none } : Job).Ending) : (s.completeRun j).Good := by
  have hdelivered := s.deliver_sameSchedule j
  have hjob : (s.deliver j).job j = { s.job j with fillFrame := none } := by rw [hdelivered.job, State.setJob_job_same]
  have haside : (s.deliver j).AgreedBut j :=
    hdelivered.agreedBut (h.setJob (r := { s.job j with fillFrame := none }) h.named rfl)
  have hunclaimed := ((s.deliver j).setTransient_sameSchedule j none).agreedBut haside
  have hcancelled : ((((s.deliver j).removeClaim j).cancelDeadline j).vacate j).AgreedBut j :=
    (State.vacate_sameSchedule _ j).agreedBut
      (hunclaimed.setJob (r := { ((s.deliver j).removeClaim j).job j with deadlineTimer := none }) hunclaimed.named rfl)
  have hengine : ((((((s.deliver j).removeClaim j).cancelDeadline j).vacate j).endRun j)).engine = s.engine := by
    rw [State.endRun_engine, State.vacate_engine]
    exact hdelivered.engine
  refine State.Good.freeDecision (State.Agreed.releaseConverter (hcancelled.endRun ?_) (by rw [hengine]; exact he))
  have hrecord : ((((s.deliver j).removeClaim j).cancelDeadline j).vacate j).job j =
      { s.job j with fillFrame := none, deadlineTimer := none } := by
    rw [State.vacate_job, State.cancelDeadline, State.setJob_job_same]
    change ({ (s.deliver j).job j with deadlineTimer := none } : Job) = _
    rw [hjob]
  rw [hrecord]
  exact hr.advanced (s.job j).nextStep none

/-- The job aside, whose step has completed, continues or yields at a boundary (R35, R36). -/
theorem State.AgreedBut.boundaryDecision {s : State} {j : JobId} (h : s.AgreedBut j) (he : s.engine.Stepped)
    (hr : (s.job j).Sound) (hs : (s.job j).state = .running)
    (hnext : (s.job j).nextStep < (s.seqOf j).steps.length) : (s.boundaryDecision j).Good := by
  have hengine : s.refreshBlocked.engine = s.engine := s.refreshBlocked_bookkept.engine
  have hjob : s.refreshBlocked.job j = s.job j := by rw [s.refreshBlocked_job, if_neg h.notQueued]
  have hseq : s.refreshBlocked.seqOf j = s.seqOf j := by
    rw [State.seqOf, hjob, s.refreshBlocked_bookkept.decided.seqs]
    rfl
  unfold State.boundaryDecision
  dsimp only
  split
  · rename_i hyield
    refine State.Good.freeDecision (State.Agreed.releaseConverter (h.refreshBlocked.preempt ?_ ?_ ?_ ?_) ?_)
    · rwa [hjob]
    · rw [hjob]
      exact .inr hs
    · rw [hjob]
      exact hyield.1
    · rwa [hjob, hseq]
    · rw [State.preempt, State.enqueue_engine, State.setJob_engine, hengine]
      exact he
  · rw [State.startStep_eq (x := (s.seqOf j).steps[(s.job j).nextStep]) (by
      rw [hseq, hjob]
      exact List.getElem?_eq_getElem hnext)]
    refine ⟨h.refreshBlocked.start ?_ ?_ ?_ ?_ ?_ _ _ _, ?_⟩
    · rw [hengine, he.settlingJob]
    · rw [hengine, he.step]
    · rwa [hjob]
    · rwa [hjob]
    · rwa [hseq, hjob]
    · rw [hengine]
      exact he.sound.moved (he.sound.failures_ne (by simp [he.state])) (by simp [Engine.starting]) ⟨rfl, rfl, rfl, rfl, rfl⟩

/-- The job aside, in RUNNING, takes its step's completion (R10). -/
theorem State.AgreedBut.stepOfRun {s : State} {p : StepInProgress} (h : s.AgreedBut p.job) (he : s.engine.Stepped)
    (hr : (s.job p.job).Sound) (hs : (s.job p.job).state = .running)
    (hnext : (s.job p.job).nextStep < (s.seqOf p.job).steps.length) (code : BitVec 12) (stale : Bool) :
    (s.stepOfRun p code stale).Good := by
  unfold State.stepOfRun
  dsimp only
  generalize hw : (s.writeSample p.job p code stale
    (s.zoneFor (s.job p.job).owner (s.windowRef p.job p.index) code)).judge p.job (s.windowRef p.job p.index) p.index
    p.channel code = t
  have hbeside : s.SameSchedule t := by
    rw [← hw]
    exact (State.writeSample_sameSchedule ..).trans (State.judge_sameSchedule ..)
  have hjob : (t.advance p.job).job p.job = { s.job p.job with nextStep := (s.job p.job).nextStep + 1 } := by
    rw [State.advance, State.setJob_job_same, hbeside.job]
  have hseq : (t.advance p.job).seqOf p.job = s.seqOf p.job := by
    rw [State.seqOf, hjob, State.advance, State.setJob_seqs, hbeside.seqs]
    rfl
  have haside : (t.advance p.job).AgreedBut p.job :=
    (hbeside.agreedBut h).setJob (r := { t.job p.job with nextStep := (t.job p.job).nextStep + 1 })
      (by rw [hbeside.job]; exact h.named) rfl
  have hengine : (t.advance p.job).engine.Stepped := by
    rw [State.advance, State.setJob_engine, hbeside.engine]
    exact he
  have hstop := hr.stopReason_of_not_stopping (by simp [hs])
  split
  · refine haside.completeRun hengine ?_
    rw [hjob]
    exact (hr.ending (by simp [hs, JobState.busy]) (by simp [hstop])).advanced _ _
  · rename_i hmore
    refine haside.boundaryDecision hengine ?_ ?_ ?_
    · rw [hjob]
      exact hr
    · rw [hjob]
      exact hs
    · rw [hjob, hseq] at hmore ⊢
      change (s.job p.job).nextStep + 1 < _
      change ¬ (s.job p.job).nextStep + 1 = _ at hmore
      omega

@[simp] theorem State.freeJob_engine (s : State) (j : JobId) : (s.freeJob j).engine = s.engine := by
  rw [State.freeJob_eq]

@[simp] theorem State.exitAborted_engine (s : State) (j : JobId) : (s.exitAborted j).engine = s.engine := by
  unfold State.exitAborted
  dsimp only
  split
  · split
    · exact (((s.endAborted j).enterPending_bookkept j _ _).trans (State.expireAtOnce_bookkept _ j)).engine
    · rfl
  · rfl

theorem Job.Sound.stopReason_isSome_iff {r : Job} (h : r.Sound) : r.stopReason.isSome = true ↔ r.state = .stopping := by
  obtain ⟨_, _, _, _, _, _, _, _, _, hst, _⟩ := h
  exact hst

/-- The job aside, in STOPPING, takes its step's completion (R18). -/
theorem State.AgreedBut.stoppingExit {s : State} {j : JobId} (h : s.AgreedBut j) (he : s.engine.Stepped)
    (hr : (s.job j).Sound) (hs : (s.job j).state = .stopping) : (s.stoppingExit j).Good := by
  have hleft := h.releaseRun
  have hjob := s.releaseRun_job_same j
  have hbusy : (s.job j).state.busy = true := by simp [hs, JobState.busy]
  have hsound := hr.released none
  rw [← hjob] at hsound
  have hreason : ((s.releaseRun j).job j).stopReason = (s.job j).stopReason := by rw [hjob]
  have hbusy' : ((s.releaseRun j).job j).state.busy = true := by rwa [hjob]
  have hexit : ((s.releaseRun j).exitStopping j).Agreed ∧ ((s.releaseRun j).exitStopping j).engine = s.engine := by
    unfold State.exitStopping
    split
    · rename_i ha
      exact ⟨hleft.exitAborted hsound hbusy' (by simp [ha]) (by rw [hjob]),
        ((s.releaseRun j).exitAborted_engine j).trans (s.releaseRun_engine j)⟩
    · rename_i hl
      refine ⟨hleft.endRun ?_, (State.endRun_engine _ j).trans (s.releaseRun_engine j)⟩
      rw [hjob]
      rw [hreason] at hl
      exact (hr.ending hbusy (by simp [hl])).advanced (s.job j).nextStep none
    · exact ⟨hleft.freeJob, (State.freeJob_engine _ j).trans (s.releaseRun_engine j)⟩
    · rename_i hn
      have := hr.stopReason_isSome_iff.2 hs
      rw [← hreason, hn] at this
      cases this
  obtain ⟨hagreed, hengine⟩ := hexit
  exact State.Good.freeDecision (hagreed.releaseConverter (by rw [hengine]; exact he))

theorem Engine.Sound.counted {e : Engine} (h : e.Sound) (hs : e.state = .converting) : e.counted.Sound := by
  have hthree := h.failures_ne (by simp [hs])
  obtain ⟨he, hr, _, hf, _, _, hstale⟩ := h
  refine ⟨he, hr, Nat.min_le_left .., hf, fun hfault => ?_, fun h3 => ?_, hstale⟩
  · cases hs.symm.trans hfault
  · exact absurd h3 hthree

theorem State.Good.stepDone {s : State} (h : s.Good) {p : StepInProgress} (hp : s.engine.step = some p)
    (code : BitVec 12) : (s.stepDone p code).Good := by
  have hjob := h.agreed.jobs p.job
  have hconverting : s.engine.state = .converting := h.shaped.2.1 (by simp [hp])
  have hset : s.engine.settlingJob = none := by
    have := h.shaped.1
    simpa [hconverting] using this
  have haside : ({ s with engine := s.engine.counted } : State).AgreedBut p.job :=
    h.scheduled.but_of_converting hp _ rfl hset
  have hstepped : s.engine.counted.Stepped := ⟨hset, rfl, hconverting, h.engine.counted hconverting⟩
  unfold State.stepDone
  rcases hjob.converting.2 (by simp [hp]) with hs | hs
  · simp only [hs]
    exact haside.stepOfRun hstepped hjob.sound hs (hjob.nextStep (.inr (.inl hs))) code _
  · simp only [hs]
    exact haside.stoppingExit hstepped hjob.sound hs

theorem State.Good.stepComplete {s : State} (h : s.Good) (code : BitVec 12) : (s.stepComplete code).Good := by
  unfold State.stepComplete
  split
  · exact h
  · split
    · exact h.stepDone ‹_› code
    · exact h

/-! ## Calibration, settling and leases (R119 to R121, R132, R142) -/

theorem State.Agreed.engine {s : State} (h : s.Agreed) (e : Engine) (hstep : e.step = s.engine.step)
    (hsettling : e.settlingJob = s.engine.settlingJob) : ({ s with engine := e } : State).Agreed :=
  ⟨fun k => (h.jobs k).congr (b := (s.job k).blocked) rfl .rfl (by rw [hsettling]) (by rw [hstep]) fun _ => rfl,
    h.seqs.congr rfl rfl fun _ => ⟨.rfl, rfl⟩, h.nodup⟩

theorem State.reportCalDone_sameSchedule (s : State) : s.SameSchedule s.reportCalDone :=
  .foldl (fun t _ => .ite (t.emit_sameSchedule ..) (.refl t)) _ s

/-- A calibration that has completed leaves the converter without step and settling job. -/
theorem State.Good.calibrated {s t : State} (h : s.Good) (hs : s.engine.state = .calibrating) (ht : s.SameSchedule t)
    {e : Engine} (hstep : e.step = s.engine.step) (hsettling : e.settlingJob = s.engine.settlingJob)
    (hstate : e.state ≠ .settling ∧ e.state ≠ .converting) (he : e.Sound) : ({ t with engine := e } : State).Good := by
  obtain ⟨hset, hst⟩ := h.shaped.none_of_state (by simp [hs]) (by simp [hs])
  refine .of ((ht.agreed h.agreed).engine e (by rw [hstep, ht.engine]) (by rw [hsettling, ht.engine])) ?_ he
  simp [Engine.Shaped, hstep, hsettling, hset, hst, hstate]

theorem State.Good.calPass {s : State} (h : s.Good) (hs : s.engine.state = .calibrating) : s.calPass.Good := by
  obtain ⟨he, hr, _, _, _, _, _⟩ := h.engine
  have ht := s.reportCalDone_sameSchedule
  unfold State.calPass
  exact h.calibrated hs (.ite (ht.trans (State.emitAll_sameSchedule ..)) ht) rfl rfl (by simp)
    ⟨he, hr, Nat.zero_le _, Nat.zero_le _, by simp, by simp, by simp⟩

theorem State.Good.calFail {s : State} (h : s.Good) (hs : s.engine.state = .calibrating) : s.calFail.Good := by
  obtain ⟨he, hr, _, _, _, _, _⟩ := h.engine
  have ht (b : EventBody) := s.emitAll_sameSchedule b
  unfold State.calFail
  refine h.calibrated hs (.ite ((ht _).trans (State.emitAll_sameSchedule ..)) (ht _)) rfl rfl ?_
    ⟨he, hr, Nat.zero_le _, Nat.min_le_left .., ?_, ?_, by simp⟩
  · dsimp only
    split <;> simp
  · dsimp only
    split
    · exact fun _ => ⟨‹_›, rfl⟩
    · simp
  · dsimp only
    intro h3
    rw [if_pos h3]
    exact .inl rfl

theorem State.Good.calComplete {s : State} (h : s.Good) (result : CalResult) : (s.calComplete result).Good := by
  unfold State.calComplete
  split
  · rename_i hs
    cases result with
    | pass => exact (h.calPass hs.1).freeDecision
    | fail => exact (h.calFail hs.1).freeDecision
  · exact h

/-- The settling job enters RUNNING with the converter (R9). -/
theorem State.Good.run {s : State} (h : s.Good) {j : JobId} (hj : s.engine.settlingJob = some j) : (s.run j).Good := by
  have hjob := h.agreed.jobs j
  have hs := hjob.settling.2 hj
  have hnext := hjob.nextStep (.inl hs)
  have hsettling : s.engine.state = .settling := h.shaped.1.1 (by simp [hj])
  have hsound : ({ s.job j with state := .running } : Job).Sound := by
    obtain ⟨hm, hp, hr, hc, hpe, hpr, hdr, hl, hd, hst, hpre, hpt, hdt, htd⟩ := hjob.sound
    have hbusy : (s.job j).state.busy = true := by simp [hs, JobState.busy]
    refine ⟨hm, hp, hr, hc, hpe, hpr, hdr, fun _ => rfl, fun hdp => ⟨rfl, (hd hdp).2⟩, ?_, by simp, ?_,
      fun ht => ⟨(hdt ht).1, rfl⟩, htd⟩
    · simp [hs] at hst
      simp [hst]
    · rw [Job.periodRuns_of_busy hbusy] at hpt
      rw [Job.periodRuns_of_busy (show JobState.running.busy = true from rfl)]
      exact hpt
  rw [State.run_eq (List.getElem?_eq_getElem hnext)]
  refine ⟨((h.scheduled.but_of_settling hs).setJob (r := { s.job j with state := .running }) (by simp) rfl).start
    rfl rfl ?_ ?_ ?_ (s.job j).nextStep _ s.timeBase, ?_⟩
  · rw [State.setJob_job_same]
    exact hsound
  · rw [State.setJob_job_same]
  · simpa [State.seqOf] using hnext
  · exact h.engine.moved (h.engine.failures_ne (by simp [hsettling])) (by simp [Engine.starting]) ⟨rfl, rfl, rfl, rfl, rfl⟩

theorem State.Good.settledReport {s : State} (h : s.Good) : s.settledReport.Good := by
  unfold State.settledReport
  split
  · split
    · exact h
    · split
      · exact h.run ‹_›
      · exact h
  · exact h.arrival

theorem State.Good.settle {s : State} (h : s.Good) : s.settle.Good := by
  unfold State.settle
  split
  · exact h
  · split
    · exact State.Good.settledReport (State.SameSchedule.good (s := s) ⟨rfl, rfl, rfl, rfl, rfl⟩ h)
    · exact h

theorem State.Good.leaseReached {s : State} (h : s.Good) (g : GroupId) : (s.leaseReached g).Good := by
  unfold State.leaseReached
  dsimp only
  split
  · exact (((s.setGroup_sameSchedule g _).trans (State.emit_sameSchedule ..)).good h).arrival
  · exact h

/-! ## Deadline expiries (R16, R46) -/

section Late
variable {s : State} (h : s.Good)
include h

theorem State.Good.reportLate (j : JobId) : (s.reportLate j).Good :=
  (State.emit_sameSchedule ..).good (h.setJob ((h.sound j).untimed _) rfl rfl (.inl ⟨rfl, rfl⟩))

theorem State.Good.cancelDeadline (j : JobId) : (s.cancelDeadline j).Good :=
  h.setJob ((h.sound j).untimed _) rfl rfl (.inl ⟨rfl, rfl⟩)

end Late

theorem State.reportLate_job_same (s : State) (j : JobId) :
    (s.reportLate j).job j = { s.job j with deadlineTimer := none } := by
  rw [State.reportLate, State.emit_job, State.setJob_job_same]

theorem State.Good.lateInHand {s : State} (h : s.Good) {j : JobId} {drop : State → State}
    (hdrop : ∀ t : State, t.Good → t.job j = { s.job j with deadlineTimer := none } → (drop t).Good) :
    (s.lateInHand j drop).Good := by
  have ht := h.reportLate j
  unfold State.lateInHand
  dsimp only
  split
  · refine ht.setJob ?_ rfl rfl (.inl ⟨rfl, rfl⟩)
    rw [State.reportLate_job_same]
    exact (h.sound j).untimed true
  · exact hdrop _ ht (s.reportLate_job_same j)

/-- A run with its frame, claim and deadline timer given back may end. -/
theorem State.Good.ending {s : State} (h : s.Good) {j : JobId} (hs : (s.job j).state.queued = true ∨
    (s.job j).state = .settling) (f : Option FrameId) (n : BitVec 16) (b : Bool) :
    ({ s.job j with fillFrame := f, deadlineTimer := none, runNumber := n, blocked := b } : Job).Ending := by
  have hbusy : (s.job j).state.busy = true := by
    cases hst : (s.job j).state <;> simp [hst, JobState.queued, JobState.busy] at hs ⊢
  have hstop := (h.sound j).stopReason_of_not_stopping fun hst => by simp [hst, JobState.queued] at hs
  exact ((h.sound j).ending hbusy (by simp [hstop])).renumbered n b f

/-- A PENDING run is dropped for lateness (R16). -/
theorem State.Good.dropPending {s : State} (h : s.Good) {j : JobId} (hs : (s.job j).state = .pending)
    (hd : (s.job j).deadlineTimer = none) : (s.dropPending (fun u => u.expireAtOnce j) j).Good := by
  have hqueued : (s.job j).state.queued = true := by simp [hs, JobState.queued]
  have hending := h.ending (.inl hqueued) (s.job j).fillFrame ((s.job j).runNumber + 1) false
  rw [← hd] at hending
  refine h.with_agreed ?_ (s.dropPending_bookkept j fun t => t.expireAtOnce_bookkept j).engine
  refine ((h.dequeued ((h.agreed.jobs j).queued.2 hqueued)).setJob (r := { (s.dequeue j).job j with
    runNumber := ((s.dequeue j).job j).runNumber + 1 }) ?_ rfl).endRun ?_
  · rw [State.dequeue_job_same]
    simp [hs]
  · rw [State.setJob_job_same, State.dequeue_job_same]
    exact hending

theorem State.Good.lateInQueue {s : State} (h : s.Good) {j : JobId} (hs : (s.job j).state = .pending) :
    (s.lateInQueue j).Good := by
  have ht := h.reportLate j
  have hpending : ((s.reportLate j).job j).state = .pending := by rw [State.reportLate_job_same]; exact hs
  have hlate : (s.latePending (fun u => u.expireAtOnce j) j).Good := by
    cases hl : (s.job j).late with
    | keep =>
      rw [State.latePending_of_keep _ hl]
      refine ht.setJob ?_ rfl rfl (.inl ⟨rfl, rfl⟩)
      rw [State.reportLate_job_same]
      exact (h.sound j).untimed true
    | drop =>
      rw [State.latePending_of_drop _ hl]
      exact ht.dropPending hpending (by rw [State.reportLate_job_same])
  unfold State.lateInQueue
  dsimp only
  split
  · exact hlate.entryArrival _
  · exact hlate

theorem State.Good.dropSettling {s : State} (h : s.Good) {j : JobId} (hs : (s.job j).state = .settling) :
    (s.dropSettling j).Good := by
  have hleft := h.releaseRun j
  have hjob := s.releaseRun_job_same j
  have hsettling : (s.releaseRun j).engine.state = .settling := by
    rw [State.releaseRun_engine]
    exact h.shaped.1.1 (by simp [(h.agreed.jobs j).settling.1 hs])
  have haside := hleft.scheduled.but_of_settling (j := j) (by rw [hjob]; exact hs)
  refine State.Good.freeDecision (.of (haside.endRun ?_) ?_ ?_)
  · change ((s.releaseRun j).job j).Ending
    rw [hjob]
    exact h.ending (.inr hs) none (s.job j).runNumber (s.job j).blocked
  · rw [State.endRun_engine]
    exact (s.releaseRun j).engine.released_shaped
  · rw [State.endRun_engine]
    exact hleft.engine.released (by simp [hsettling])

theorem State.Good.dropPreempted {s : State} (h : s.Good) {j : JobId} (hs : (s.job j).state = .preempted) :
    (s.dropPreempted j).Good := by
  have hqueued : (s.job j).state.queued = true := by simp [hs, JobState.queued]
  have haside := (h.dequeued ((h.agreed.jobs j).queued.2 hqueued)).releaseRun
  refine State.Good.arrival (h.with_agreed (haside.endRun ?_) ?_)
  · rw [State.releaseRun_job_same, State.dequeue_job_same]
    exact h.ending (.inl hqueued) none (s.job j).runNumber false
  · rw [State.endRun_engine, State.releaseRun_engine, State.dequeue_engine]

theorem State.Good.lateBy {s : State} (h : s.Good) (j : JobId) : (s.lateBy j).Good := by
  unfold State.lateBy
  split
  · exact h.lateInQueue ‹_›
  · rename_i hs
    exact h.lateInHand fun t ht hjob => ht.dropSettling (by rw [hjob]; exact hs)
  · rename_i hs
    refine h.lateInHand fun t ht hjob => ?_
    have hrunning : (t.job j).state = .running := by rw [hjob]; exact hs
    have hstop := (ht.sound j).stopReason_of_not_stopping (by simp [hrunning])
    exact ht.setJob ((ht.sound j).stopping (.inl hrunning) (by decide) (by simp [hstop])) (by rw [hrunning]; rfl) rfl
      (.inr (.inl rfl))
  · rename_i hs
    exact h.lateInHand fun t ht hjob => ht.dropPreempted (by rw [hjob]; exact hs)
  · exact h.cancelDeadline j
  all_goals exact h

theorem State.Good.deadlineReached {s : State} (h : s.Good) (j : JobId) : (s.deadlineReached j).Good := by
  unfold State.deadlineReached
  split
  · exact h.lateBy j
  · exact h

end Sys2Proof.Machine

namespace Sys2Proof.Machine

/-! ## Arguments in their ranges (R3, R99) -/

theorem argByte_le (args : List Byte) (i : Nat) : argByte args i ≤ 255 := by
  have := (args.getD i 0).isLt
  unfold argByte
  omega

theorem periodOf_some {source : TriggerSource} {v : Nat} {period : Option Nat} (h : periodOf source v = some period) :
    (period.isSome = true ↔ source = .period) ∧ ∀ p, period = some p → 20 ≤ p ∧ p ≤ 1048575 := by
  unfold periodOf at h
  split at h
  · cases h
    simpa using ‹source ≠ .period›
  · split at h
    · cases h
      simp_all
    · cases h

theorem deadlineOf_some {v d : Nat} (h : deadlineOf v = some d) : d = v ∧ 1 ≤ d := by
  unfold deadlineOf at h
  split at h
  · cases h
  · cases h
    exact ⟨rfl, by omega⟩

theorem repeatOf_count {mode count n : Nat} (h : repeatOf mode count = some (.count n)) : n = count ∧ 1 ≤ n := by
  unfold repeatOf at h
  split at h
  · cases h
  · split at h
    · cases h
    · cases h
      exact ⟨rfl, by omega⟩
  all_goals cases h

theorem jobArgs_inRange {args : List Byte} {a : JobArgs} (h : jobArgs args = some a) : a.InRange := by
  simp only [jobArgs, Option.bind_eq_bind, Option.bind_eq_some_iff, Option.some.injEq] at h
  obtain ⟨_, _, _, _, _, _, _, _, _, hperiod, _, _, _, hrepeat, _, _, _, _, _, _, rfl⟩ := h
  obtain ⟨hsome, hrange⟩ := periodOf_some hperiod
  refine ⟨hsome, hrange, fun d hd => ?_, fun n hn => ?_⟩
  · obtain ⟨rfl, hpos⟩ := deadlineOf_some hd
    have := argByte_le args 11
    have := argByte_le args (11 + 1)
    exact ⟨hpos, by unfold argPair; omega⟩
  · dsimp only at hn
    subst hn
    obtain ⟨rfl, hpos⟩ := repeatOf_count hrepeat
    exact ⟨hpos, argByte_le args 9⟩

theorem newJob_sound {a : JobArgs} (h : a.InRange) (host : HostId) : (newJob host a).Sound := by
  obtain ⟨hsome, hperiod, hdeadline, hcount⟩ := h
  exact ⟨Nat.zero_le _, Nat.zero_le _, Nat.zero_le _, hcount, hsome, hperiod, hdeadline, by simp [newJob, Job.free],
    by simp [newJob, Job.free], by simp [newJob, Job.free], by simp [newJob],
    by simp [newJob, Job.free, Job.periodRuns, JobState.busy], by simp [newJob, Job.free], by simp [newJob, Job.free]⟩

theorem stepsOf_length : ∀ {l : List Byte} {steps : List SeqStep}, stepsOf l = some steps → l.length = 2 * steps.length
  | [], steps, h => by
    cases h
    rfl
  | [_], _, h => by cases h
  | a :: b :: rest, steps, h => by
    simp only [stepsOf, Option.bind_eq_bind, Option.bind_eq_some_iff, Option.some.injEq] at h
    obtain ⟨st, _, more, hmore, rfl⟩ := h
    have := stepsOf_length hmore
    simp only [List.length_cons]
    omega

theorem seqArgs_steps {args : List Byte} {a : SeqArgs} (h : seqArgs args = some a) :
    1 ≤ a.steps.length ∧ a.steps.length ≤ 16 := by
  unfold seqArgs at h
  split at h
  · simp at h
  · split at h
    · simp at h
    · rename_i hcount hlen
      simp only [Option.bind_eq_bind, Option.bind_eq_some_iff, Option.some.injEq] at h
      obtain ⟨_, _, _, _, _, _, steps, hsteps, rfl⟩ := h
      have := stepsOf_length hsteps
      rw [List.length_drop] at this
      dsimp only
      omega

/-! ## Commands keep the schedule

A block keeps the schedule when its reply to every good state is one. -/

theorem State.respond_sameSchedule (s : State) (h : HostId) (st : Status) (payload : List Byte) :
    s.SameSchedule (s.respond h st payload) := s.setPort_sameSchedule ..

/-- A block of the command table that keeps the schedule. -/
def Keeps (block : State → Reply) : Prop := ∀ s : State, s.Good → (block s).state.Good

theorem Keeps.take {block : State → Reply} (hb : Keeps block) {s : State} (hs : s.Good) (h : HostId) (i : Instr) :
    (s.take h i block).Good := by
  unfold State.take
  split
  · exact (State.respond_sameSchedule ..).good (hb s hs)
  · exact hs

theorem Keeps.expecting {block : State → Reply} (hb : Keeps block) (n : Nat) (args : List Byte) :
    Keeps (expecting n args block) := by
  intro s hs
  unfold Machine.expecting
  split
  · exact hb s hs
  · exact hs

theorem Keeps.jobCommand {body : JobId → State → Reply}
    (hb : ∀ (j : JobId) (s : State), s.Good → (s.job j).gone = false → (body j s).state.Good) (h : HostId)
    (args : List Byte) : Keeps (jobCommand h args body) := by
  refine Keeps.expecting (fun s hs => ?_) 1 args
  split
  · exact hs
  · rename_i j hj
    exact hb j s hs (s.commandedJob_ok_iff h args j |>.1 hj).2.1

theorem Keeps.groupCommand {body : GroupId → State → Reply} (hb : ∀ g, Keeps (body g)) (n : Nat) (args : List Byte) :
    Keeps (groupCommand n args body) := by
  refine Keeps.expecting (fun s hs => ?_) n args
  split
  · exact hs
  · exact hb _ s hs

theorem Keeps.seqCommand {body : SeqId → State → Reply} (hb : ∀ k, Keeps (body k)) (args : List Byte) :
    Keeps (seqCommand args body) := by
  refine Keeps.expecting (fun s hs => ?_) 1 args
  split
  · exact hs
  · split
    · exact hb _ s hs
    · exact hs

theorem State.Good.live {s : State} (h : s.Good) {f : State → State} (hf : s.Good → (f s).Good) : (s.live f).Good := by
  unfold State.live
  split
  · exact h
  · exact hf h

/-! ### Job commands (R4, R5, R17, R19, R20, R82) -/

/-- A job with no run in hand has no latch, no disarm pending, no stop reason and no deadline timer. -/
theorem Job.Sound.at_rest {r : Job} (h : r.Sound) (hb : r.state.busy = false) :
    r.latch = none ∧ r.disarmPending = false ∧ r.stopReason = none ∧ r.deadlineTimer = none := by
  obtain ⟨_, _, _, _, _, _, _, hl, hd, hst, _, _, hdt, _⟩ := h
  have hnot : ¬ r.state.busy = true := by simp [hb]
  have hdispatched : ¬ r.state.dispatched = true := fun hdi => hnot (by
    cases hs : r.state <;> simp [hs, JobState.dispatched, JobState.busy] at hdi ⊢)
  refine ⟨?_, Bool.eq_false_iff.2 fun hdp => hdispatched (hd hdp).1, ?_, ?_⟩
  · simpa using mt hl hnot
  · simpa using mt hst.1 fun hs => hnot (by simp [hs, JobState.busy])
  · simpa using mt hdt fun hh => hnot hh.2

theorem Job.Sound.arm {r : Job} (h : r.Sound) (hb : r.state.busy = false) (now : Time) : (r.arm now).Sound := by
  obtain ⟨hlatch, hdisarm, hstop, hdeadline⟩ := h.at_rest hb
  obtain ⟨hm, hp, hr, hc, hpe, hpr, hdr, _, _, _, _, _, _, _⟩ := h
  refine ⟨hm, hp, ?_, hc, hpe, hpr, hdr, by simp [Job.arm, hlatch], by simp [Job.arm, hdisarm], by simp [Job.arm, hstop],
    by simp [Job.arm], ?_, by simp [Job.arm, hdeadline], by simp [Job.arm, hstop]⟩
  · unfold Job.arm
    dsimp only
    split
    · exact (hc _ ‹_›).2
    all_goals exact hr
  · by_cases hs : r.source = .period
    · simp [Job.arm, Job.periodRuns, hs, hpe.2 hs, hstop]
    · simp [Job.arm, Job.periodRuns, hs]

theorem State.Good.armJob (j : JobId) : Keeps (State.armJob j) := by
  intro s h
  have harm (hs : (s.job j).state.place = .rest) (hb : (s.job j).state.busy = false) :
      (s.setJob j ((s.job j).arm s.timeBase)).Good :=
    h.setJob ((h.sound j).arm hb _) (by rw [hs]; rfl) rfl (.inr (.inr rfl))
  unfold State.armJob
  split
  · exact harm (by simp [‹_›]; rfl) (by simp [‹_›]; rfl)
  · exact harm (by simp [‹_›]; rfl) (by simp [‹_›]; rfl)
  all_goals exact h

theorem Job.Sound.disarmPending_of_pending {r : Job} (h : r.Sound) (hs : r.state = .pending) :
    r.disarmPending = false := by
  obtain ⟨_, _, _, _, _, _, _, _, hd, _⟩ := h
  rw [Bool.eq_false_iff]
  intro hdp
  have := (hd hdp).1
  simp [hs, JobState.dispatched] at this

/-- A job with nothing of a run left becomes IDLE. -/
theorem Job.Sound.idled {r : Job} (h : r.Sound) (hl : r.latch = none) (hd : r.disarmPending = false)
    (hs : r.stopReason = none) (ht : r.deadlineTimer = none) :
    ({ r with state := .idle, periodTimer := none } : Job).Sound := by
  obtain ⟨hm, hp, hr, hc, hpe, hpr, hdr, _, _, _, _, _, _, _⟩ := h
  exact ⟨hm, hp, hr, hc, hpe, hpr, hdr, by simp [hl], by simp [hd], by simp [hs], by simp,
    by simp [Job.periodRuns, JobState.busy], by simp [ht], by simp [hs]⟩

/-- A PENDING run that has lost its latch and its deadline timer comes to rest in ARMED. -/
theorem Job.Sound.rearmed {r : Job} (h : r.Sound) (hs : r.state = .pending) (hl : r.latch = none)
    (ht : r.deadlineTimer = none) : ({ r with state := .armed } : Job).Sound := by
  have hstop := h.stopReason_of_not_stopping (by simp [hs])
  have hdisarm := h.disarmPending_of_pending hs
  obtain ⟨hm, hp, hr, hc, hpe, hpr, hdr, _, _, _, _, hpt, _, _⟩ := h
  exact ⟨hm, hp, hr, hc, hpe, hpr, hdr, by simp [hl], by simp [hdisarm], by simp [hstop], by simp,
    by simpa [Job.periodRuns, JobState.busy, hs] using hpt, by simp [ht], by simp [hstop]⟩

/-- DISARM_JOB of a busy run sets disarm pending (R19). -/
theorem Job.Sound.disarming {r : Job} (h : r.Sound) (hd : r.state.dispatched = true) :
    ({ r with disarmPending := true, latch := none } : Job).Sound := by
  obtain ⟨hm, hp, hr, hc, hpe, hpr, hdr, _, _, hst, hpre, hpt, hdt, htd⟩ := h
  exact ⟨hm, hp, hr, hc, hpe, hpr, hdr, by simp, fun _ => ⟨hd, rfl⟩, hst, hpre, hpt, hdt, htd⟩

theorem State.Good.disarmJob (j : JobId) : Keeps (State.disarmJob j) := by
  intro s h
  have hidle (hs : (s.job j).state.place = .rest) (hb : (s.job j).state.busy = false) :
      (s.setJob j { s.job j with state := .idle, periodTimer := none }).Good := by
    obtain ⟨hlatch, hdisarm, hstop, hdeadline⟩ := (h.sound j).at_rest hb
    exact h.setJob ((h.sound j).idled hlatch hdisarm hstop hdeadline) (by rw [hs]; rfl) rfl (.inr (.inr rfl))
  have hbusy (hd : (s.job j).state.dispatched = true) :
      (s.setJob j { s.job j with disarmPending := true, latch := none }).Good :=
    h.setJob ((h.sound j).disarming hd) rfl rfl (.inl ⟨rfl, rfl⟩)
  unfold State.disarmJob
  dsimp only
  split
  · exact hidle (by simp [‹_›]; rfl) (by simp [‹_›]; rfl)
  · exact hidle (by simp [‹_›]; rfl) (by simp [‹_›]; rfl)
  · rename_i hs
    have hqueued : (s.job j).state.queued = true := by simp [hs, JobState.queued]
    have hsound := ((h.sound j).unlatched.untimed (s.job j).deadlineMissed).idled rfl
      ((h.sound j).disarmPending_of_pending hs) ((h.sound j).stopReason_of_not_stopping (by simp [hs])) rfl
    refine h.with_agreed (((h.dequeued ((h.agreed.jobs j).queued.2 hqueued)).setJob (r := { (s.dequeue j).job j with
      state := .idle, latch := none, deadlineTimer := none, periodTimer := none }) (by simp) rfl).rest ?_ ?_) rfl
    · rw [State.setJob_job_same, State.dequeue_job_same]
      exact hsound
    · rw [State.setJob_job_same]
      rfl
  iterate 4 exact hbusy (by simp [‹_›]; rfl)
  all_goals exact h

theorem State.Good.startJob (j : JobId) : Keeps (State.startJob j) := by
  intro s h
  unfold State.startJob
  split
  iterate 3 exact h
  all_goals exact h.takeTrigger ..

section Abort
variable {s : State} (h : s.Good) {j : JobId} (hl : (s.job j).latch = none)
include h hl

/-- ABORT_JOB in PENDING, the latch discarded (R17). -/
theorem State.Good.abortPending (hs : (s.job j).state = .pending) :
    ((((s.dequeue j).cancelDeadline j).setJob j
      { ((s.dequeue j).cancelDeadline j).job j with state := .armed }).reportAbort j).Good := by
  have hqueued : (s.job j).state.queued = true := by simp [hs, JobState.queued]
  have haside := h.dequeued ((h.agreed.jobs j).queued.2 hqueued)
  have hcancelled := haside.setJob (r := { (s.dequeue j).job j with deadlineTimer := none }) haside.named rfl
  have hsound := ((h.sound j).untimed (s.job j).deadlineMissed).rearmed hs hl rfl
  refine (State.emit_sameSchedule ..).good (h.with_agreed ((hcancelled.setJob (r := {
    ((s.dequeue j).cancelDeadline j).job j with state := .armed }) (by simp) rfl).rest ?_ ?_) rfl)
  · rw [State.setJob_job_same, State.cancelDeadline, State.setJob_job_same, State.dequeue_job_same]
    exact hsound
  · rw [State.setJob_job_same]
    rfl

/-- ABORT_JOB in SETTLING, the latch discarded (R17). -/
theorem State.Good.abortSettling (hs : (s.job j).state = .settling) :
    (((s.releaseRun j).releaseConverter).endAborted j).Good := by
  have hleft := h.releaseRun j
  have hjob : (s.releaseRun j).releaseConverter.job j = { s.job j with fillFrame := none, deadlineTimer := none } :=
    s.releaseRun_job_same j
  have hstop := (h.sound j).stopReason_of_not_stopping (by simp [hs])
  have hsettling : (s.releaseRun j).engine.state = .settling := by
    rw [State.releaseRun_engine]
    exact h.shaped.1.1 (by simp [(h.agreed.jobs j).settling.1 hs])
  have haside := hleft.scheduled.but_of_settling (j := j) (by rw [s.releaseRun_job_same]; exact hs)
  refine .of (haside.endAborted (hleft.sound j) ?_ ?_ ?_ ?_) (s.releaseRun j).engine.released_shaped
    (hleft.engine.released (by simp [hsettling])) <;> rw [hjob]
  · simp [hs, JobState.busy]
  · simp [hstop]
  · exact hl

/-- ABORT_JOB in PREEMPTED, the latch discarded (R17). -/
theorem State.Good.abortPreempted (hs : (s.job j).state = .preempted) :
    ((((s.dequeue j).releaseRun j).endAborted j)).Good := by
  have hqueued : (s.job j).state.queued = true := by simp [hs, JobState.queued]
  have haside := (h.dequeued ((h.agreed.jobs j).queued.2 hqueued)).releaseRun
  have hstop := (h.sound j).stopReason_of_not_stopping (by simp [hs])
  refine h.with_agreed (haside.endAborted ?_ ?_ ?_ ?_ ?_) (((s.dequeue j).releaseRun_engine j).trans rfl) <;>
    rw [State.releaseRun_job_same, State.dequeue_job_same]
  · exact (h.sound j).released none
  · simp [hs, JobState.busy]
  · simp [hstop]
  · exact hl

end Abort

/-- ABORT_JOB with a step in progress (R17). -/
theorem State.Good.abortStopping {s : State} (h : s.Good) {j : JobId} (hs : (s.job j).state = .running ∨ (s.job j).state = .stopping)
    (hg : (s.job j).gone = false) :
    (s.setJob j { s.job j with state := .stopping, stopReason := some .abort }).Good := by
  have ht : (s.job j).stopReason ≠ some .teardown := by
    intro ht
    have hstopping := (h.sound j).stopReason_isSome_iff.1 (by simp [ht])
    simp [Job.gone, hstopping, ht] at hg
  refine h.setJob ((h.sound j).stopping hs (by decide) ht) ?_ rfl (.inr (.inl rfl))
  rcases hs with hs | hs <;> simp [hs, JobState.place]

theorem State.Good.abortJob {j : JobId} {s : State} (h : s.Good) (hg : (s.job j).gone = false) :
    (s.abortJob j).state.Good := by
  have hc : (s.setJob j { s.job j with latch := none }).Good :=
    h.setJob (h.sound j).unlatched rfl rfl (.inl ⟨rfl, rfl⟩)
  have hjob : (s.setJob j { s.job j with latch := none }).job j = { s.job j with latch := none } :=
    s.setJob_job_same j _
  have hl : ((s.setJob j { s.job j with latch := none }).job j).latch = none := by rw [hjob]
  unfold State.abortJob
  dsimp only
  generalize hgen : s.setJob j { s.job j with latch := none } = c at *
  have hstate : (c.job j).state = (s.job j).state := by rw [hjob]
  have hgone : (c.job j).gone = false := by rw [hjob]; exact hg
  split
  · exact hc.abortPending hl (hstate.trans ‹_›)
  · exact (hc.abortSettling hl (hstate.trans ‹_›)).freeDecision
  · exact (hc.abortPreempted hl (hstate.trans ‹_›)).arrival
  · exact hc.abortStopping (.inl (hstate.trans ‹_›)) hgone
  · rename_i hs
    have := hc.abortStopping (.inr (hstate.trans hs)) hgone
    rwa [← hstate.trans hs] at this
  all_goals exact h

theorem State.Good.deleteJob (j : JobId) : Keeps (State.deleteJob j) := by
  intro s h
  have hfree (hs : (s.job j).state.place = .rest) : (s.freeJob j).Good :=
    h.with_agreed (h.agreed.but_of_rest hs).freeJob (s.freeJob_engine j)
  unfold State.deleteJob
  split
  · exact hfree (by simp [‹_›]; rfl)
  · exact hfree (by simp [‹_›]; rfl)
  all_goals exact h

end Sys2Proof.Machine

namespace Sys2Proof.Machine

/-! ### Sequence commands and CREATE_JOB (R4, R100, R101) -/

theorem State.Good.defineAt {s : State} (h : s.Good) {host : HostId} {a : SeqArgs} {k : SeqId}
    (ha : 1 ≤ a.steps.length ∧ a.steps.length ≤ 16) (hk : s.namers k = 0) : (s.defineAt host a k).state.Good := by
  unfold State.defineAt
  split
  · exact h
  · refine h.with_agreed (h.agreed.replaceSeq hk rfl rfl rfl rfl ⟨rfl, by simp, fun _ => ha, by simp⟩ ?_) rfl
    change s.freeSteps + (s.seqs.at k).steps.length - a.steps.length + a.steps.length = _
    omega

theorem State.Good.namers_of_undefined {s : State} (h : s.Good) {k : SeqId} (hd : (s.seqs.at k).defined = false) :
    s.namers k = 0 := by
  obtain ⟨_, hundef, _⟩ := h.agreed.seqs.1 k
  exact (hundef hd).2

theorem State.Good.namers_of_unreferenced {s : State} (h : s.Good) {k : SeqId} (hr : ¬ 0 < (s.seqs.at k).refCount) :
    s.namers k = 0 := by
  obtain ⟨hcount, _⟩ := h.agreed.seqs.1 k
  omega

theorem State.Good.defineSeq (host : HostId) {a : SeqArgs} (ha : 1 ≤ a.steps.length ∧ a.steps.length ≤ 16) :
    Keeps fun s => s.defineSeq host a := by
  intro s h
  dsimp only
  unfold State.defineSeq
  split
  · split
    · exact h
    · rename_i k hk
      exact h.defineAt ha (h.namers_of_undefined (by simpa using List.find?_some hk))
  · dsimp only
    split
    · exact h.defineAt ha (h.namers_of_undefined ‹_›)
    · split
      · exact h
      · split
        · exact h
        · exact h.defineAt ha (h.namers_of_unreferenced ‹_›)

theorem State.Good.freeSeq {s : State} (h : s.Good) {k : SeqId} (hk : s.namers k = 0) : (s.freeSeq k).Good :=
  h.with_agreed (h.agreed.replaceSeq hk rfl rfl rfl rfl Seq.free_soundFor rfl) rfl

theorem State.Good.deleteSeq (host : HostId) (k : SeqId) : Keeps (State.deleteSeq host k) := by
  intro s h
  unfold State.deleteSeq
  dsimp only
  split
  · exact h
  · split
    · exact h
    · exact h.freeSeq (h.namers_of_unreferenced ‹_›)

theorem State.Good.readSeq (host : HostId) (k : SeqId) : Keeps (State.readSeq host k) := by
  intro s h
  unfold State.readSeq
  dsimp only
  split <;> exact h

theorem State.Good.createJob (host : HostId) {a : JobArgs} (ha : a.InRange) : Keeps fun s => s.createJob host a := by
  intro s h
  unfold State.createJob
  dsimp only
  split
  · exact h
  · split
    · exact h
    · split
      · exact h
      · rename_i hd _ _ j hj
        exact h.with_agreed (h.agreed.create (by simpa using List.find?_some hj) host (newJob_sound ha host)
          (by simpa using hd)) rfl

/-! ### The other blocks' commands -/

theorem State.Good.fetchFrame (host : HostId) : Keeps (State.fetchFrame host) := by
  intro s h
  unfold State.fetchFrame
  split
  · exact h
  · exact State.Good.arrival (State.SameSchedule.good (s := s) ⟨rfl, rfl, rfl, rfl, rfl⟩ h)

theorem State.Good.flushFrames (host : HostId) : Keeps (State.flushFrames host) := by
  intro s h
  unfold State.flushFrames
  split
  · exact h
  · exact ((s.flushDelivery_sameSchedule host).good h).arrival

theorem State.clearWindow_sameSchedule (s : State) (host : HostId) (w : WindowId) :
    s.SameSchedule (s.clearWindow host w) := .ite (s.setWindow_sameSchedule ..) (.refl s)

theorem State.Good.acquireHold (host : HostId) (lease : Nat) (g : GroupId) : Keeps (State.acquireHold host lease g) := by
  intro s h
  have htake : (s.takeGroup host g lease).state.Good := by
    unfold State.takeGroup
    split <;> exact ((s.setGroup_sameSchedule g _).good h).arrival
  unfold State.acquireHold
  dsimp only
  split
  · exact h
  · split
    · exact h
    · split
      · exact h
      · exact htake

theorem State.Good.renewHold (host : HostId) (g : GroupId) : Keeps (State.renewHold host g) := by
  intro s h
  unfold State.renewHold
  dsimp only
  split
  · exact (s.setGroup_sameSchedule g _).good h
  · exact h

theorem State.Good.releaseHold (host : HostId) (g : GroupId) : Keeps (State.releaseHold host g) := by
  intro s h
  unfold State.releaseHold
  dsimp only
  split
  · exact ((s.setGroup_sameSchedule g _).good h).arrival
  · exact h

theorem State.Good.claimExc (host : HostId) (l : Level) : Keeps (State.claimExc host l) := by
  intro s h
  unfold State.claimExc
  split
  · exact h
  · exact ((s.setStanding_sameSchedule host l).good h).arrival

theorem State.Good.readEvents (host : HostId) (n : Nat) : Keeps (State.readEvents host n) := by
  intro s h
  unfold State.readEvents
  dsimp only
  split
  · exact h
  · split
    · exact h
    · exact State.SameSchedule.good (s := s) ⟨rfl, rfl, rfl, rfl, rfl⟩ h

/-- The engine's records that no schedule reads change. -/
theorem State.Good.engineRecords {s : State} (h : s.Good) {e : Engine} (hstep : e.step = s.engine.step)
    (hsettling : e.settlingJob = s.engine.settlingJob) (hstate : e.state = s.engine.state) (he : e.Sound) :
    ({ s with engine := e } : State).Good := by
  refine .of (h.agreed.engine e hstep hsettling) ?_ he
  have := h.shaped
  unfold Engine.Shaped at this ⊢
  rwa [hstep, hsettling, hstate]

theorem State.Good.requestCal (host : HostId) : Keeps (State.requestCal host) := by
  intro s h
  unfold State.requestCal
  split
  · exact h
  · dsimp only [State.answer]
    exact State.Good.arrival (h.engineRecords rfl rfl rfl h.engine)

theorem State.Good.setRequest {s : State} (h : s.Good) (host : HostId) {n : Option Nat}
    (hn : ∀ m, n = some m → 256 ≤ m ∧ m ≤ 65535) : (s.setRequest host n).Good := by
  obtain ⟨_, hr, hc, hf, hfault, hthree, hstale⟩ := h.engine
  refine h.engineRecords rfl rfl rfl ⟨rfl, fun k m hk => ?_, hc, hf, hfault, hthree, hstale⟩
  change (s.engine.requests.put host n).get k = some m at hk
  rw [PerHost.get_put] at hk
  split at hk
  · exact hn m hk
  · exact hr k m hk

theorem argPair_le (args : List Byte) (i : Nat) : argPair args i ≤ 65535 := by
  have := argByte_le args i
  have := argByte_le args (i + 1)
  unfold argPair
  omega

theorem State.Good.setCalInterval (host : HostId) {n : Nat} (hn : n ≤ 65535) : Keeps (State.setCalInterval host n) := by
  intro s h
  unfold State.setCalInterval
  dsimp only
  split
  · exact h
  · have ht : (s.setRequest host (if n = 0 then none else some n)).Good := h.setRequest host fun m hm => by
      split at hm
      · cases hm
      · cases hm
        omega
    generalize s.setRequest host (if n = 0 then none else some n) = t at ht ⊢
    split
    · exact ht
    · exact ht.intervalArrival

/-! ### HOST_RESET (R183) -/

theorem State.Scheduled.releaseRun {s : State} (h : s.Scheduled) (j : JobId) : (s.releaseRun j).Scheduled := by
  obtain ⟨ha, hshape⟩ := s.scheduled_iff.1 h
  have hj := ha.jobs j
  refine (State.scheduled_iff _).2 ⟨(s.releaseRun_sameSchedule j).agreed
    (ha.setJob (r := { s.job j with fillFrame := none, deadlineTimer := none }) (hj.sound.released none) rfl rfl
      hj.nextStep), ?_⟩
  rw [State.releaseRun_engine]
  exact hshape

section TearJob
variable {s : State} {j : JobId}

theorem State.tearJob_of_free (hs : (s.job j).state = .free) : s.tearJob j = s := by
  unfold State.tearJob
  dsimp only
  rw [hs]

theorem State.tearJob_of_converting (hs : (s.job j).state = .running ∨ (s.job j).state = .stopping) :
    s.tearJob j = s.setJob j { s.job j with
      state := .stopping, stopReason := some .teardown, periodTimer := none, deadlineTimer := none } := by
  unfold State.tearJob
  dsimp only
  rcases hs with hs | hs <;> rw [hs]

theorem State.tearJob_of_settling (hs : (s.job j).state = .settling) :
    s.tearJob j = ((s.releaseRun j).releaseConverter).freeJob j := by
  unfold State.tearJob
  dsimp only
  rw [hs]

theorem State.tearJob_of_preempted (hs : (s.job j).state = .preempted) :
    s.tearJob j = ((s.dequeue j).releaseRun j).freeJob j := by
  unfold State.tearJob
  dsimp only
  rw [hs]

/-- A job that waits for the Dispatcher with nothing in hand, or rests. -/
theorem State.tearJob_of_waiting
    (hs : (s.job j).state.place = .rest ∨ (s.job j).state.place = .queue ∧ (s.job j).state ≠ .preempted) :
    s.tearJob j = (s.dequeue j).freeJob j := by
  unfold State.tearJob
  cases hst : (s.job j).state <;> simp [hst, JobState.place] at hs ⊢

end TearJob

theorem JobState.torn_cases (st : JobState) : st = .free ∨ (st = .running ∨ st = .stopping) ∨ st = .settling ∨
    st = .preempted ∨ st.place = .rest ∨ st.place = .queue ∧ st ≠ .preempted := by
  cases st <;> decide

/-- One job's part of a teardown keeps jobs, sequences and queue in agreement; a settling job gives the converter back. -/
theorem State.Scheduled.tearJob {s : State} (h : s.Scheduled) (j : JobId) :
    (s.tearJob j).Agreed ∧
    (s.tearJob j).engine = if (s.job j).state = .settling then s.engine.released else s.engine := by
  obtain ⟨ha, _⟩ := s.scheduled_iff.1 h
  have hj := ha.jobs j
  rcases (s.job j).state.torn_cases with hs | hs | hs | hs | hs
  · rw [State.tearJob_of_free hs, if_neg (by simp [hs])]
    exact ⟨ha, rfl⟩
  · rw [State.tearJob_of_converting hs, if_neg (by rcases hs with hs | hs <;> simp [hs])]
    exact ⟨ha.setJob hj.sound.tornDown (((s.job j).state.place_eq_converter_iff).2 hs).symm rfl (by simp), rfl⟩
  · rw [State.tearJob_of_settling hs, if_pos hs, State.freeJob_engine]
    refine ⟨((h.releaseRun j).but_of_settling (by rw [s.releaseRun_job_same]; exact hs)).freeJob, ?_⟩
    change (s.releaseRun j).engine.released = _
    rw [State.releaseRun_engine]
  · rw [State.tearJob_of_preempted hs, if_neg (by simp [hs]), State.freeJob_engine, State.releaseRun_engine,
      State.dequeue_engine]
    exact ⟨(ha.but_of_dequeue (.inr (by rw [hs]; rfl))).releaseRun.freeJob, rfl⟩
  · rw [State.tearJob_of_waiting hs, State.freeJob_engine, State.dequeue_engine, if_neg]
    · exact ⟨(ha.but_of_dequeue (hs.imp_right And.left)).freeJob, rfl⟩
    · intro hst
      rw [hst] at hs
      exact absurd hs (by decide)

theorem State.Good.tearJob {s : State} (h : s.Good) (j : JobId) : (s.tearJob j).Good := by
  obtain ⟨ha, he⟩ := h.scheduled.tearJob j
  split at he
  · rename_i hs
    have hsettling : s.engine.state = .settling := h.shaped.1.1 (by simp [(h.agreed.jobs j).settling.1 hs])
    refine .of ha ?_ ?_ <;> rw [he]
    · exact s.engine.released_shaped
    · exact h.engine.released (by simp [hsettling])
  · exact h.with_agreed ha he

theorem State.Good.foldl {α : Type} {f : State → α → State} (hf : ∀ (t : State) (x : α), t.Good → (f t x).Good)
    (l : List α) {s : State} (h : s.Good) : (l.foldl f s).Good := by
  induction l generalizing s with
  | nil => exact h
  | cons x xs ih => exact ih (hf s x h)

theorem State.Agreed.tearSeq {s : State} (h : s.Agreed) (host : HostId) (k : SeqId) :
    (State.tearSeq host s k).Agreed := by
  obtain ⟨hcount, hundef, hlen, _⟩ := h.seqs.1 k
  unfold State.tearSeq
  dsimp only
  split
  · split
    · exact h.replaceSeq (k := k) (by omega) rfl rfl rfl rfl Seq.free_soundFor rfl
    · exact h.relabelSeq rfl ⟨hcount, hundef, hlen, fun _ _ => by omega⟩
  · exact h

theorem State.tearSeq_engine (host : HostId) (s : State) (k : SeqId) : (State.tearSeq host s k).engine = s.engine := by
  unfold State.tearSeq
  dsimp only
  split
  · split <;> rfl
  · rfl

theorem State.Good.tearSeq {s : State} (h : s.Good) (host : HostId) (k : SeqId) : (State.tearSeq host s k).Good :=
  h.with_agreed (h.agreed.tearSeq host k) (State.tearSeq_engine host s k)

theorem State.Good.tearEngine {s : State} (h : s.Good) (host : HostId) : (s.tearEngine host).Good :=
  (h.setRequest host (n := none) (by simp)).engineRecords rfl rfl rfl (h.setRequest host (n := none) (by simp)).engine

theorem State.tearGroup_sameSchedule (host : HostId) (s : State) (g : GroupId) :
    s.SameSchedule (State.tearGroup host s g) := .ite (s.setGroup_sameSchedule ..) (.refl s)

theorem State.tearRecords_sameSchedule (s : State) (host : HostId) : s.SameSchedule (s.tearRecords host) :=
  ⟨rfl, rfl, rfl, rfl, rfl⟩

theorem State.Good.teardown {s : State} (h : s.Good) (host : HostId) : (s.teardown host).Good := by
  have hjobs : (s.tearJobs host).Good := ((s.drawnFor_sameSchedule _).good h).foldl (fun _ j ht => ht.tearJob j) _
  have hengine : ((allSeqs.foldl (State.tearSeq host) (s.tearJobs host)).tearEngine host).Good :=
    (hjobs.foldl (fun _ k ht => ht.tearSeq host k) _).tearEngine host
  have hstore := (State.flushDelivery_sameSchedule _ host).good ((State.setStanding_sameSchedule _ host .off).good hengine)
  have hgroups := (State.SameSchedule.foldl (State.tearGroup_sameSchedule host) allGroups _).good hstore
  exact (State.tearRecords_sameSchedule _ host).good hgroups

theorem State.Good.hostReset (host : HostId) : Keeps (State.hostReset host) := by
  intro s h
  have ht := h.teardown host
  unfold State.hostReset State.tornArrival
  dsimp only [State.answer]
  split
  · exact ht.intervalArrival
  · split
    · exact ht.arrival
    · exact ht

/-! ## Every command and every step -/

theorem State.asserted_good (s : State) : s.asserted.Good := by
  have hreset : State.reset.Good := ⟨State.reset_blank.scheduled rfl rfl (by decide) (by decide), Engine.sound_reset⟩
  exact State.SameSchedule.good (s := State.reset) ⟨rfl, rfl, rfl, rfl, rfl⟩ hreset

theorem State.Good.release {s : State} (h : s.Good) (alloc : BitVec 2) (levels : LineLevels) (csLow : PerHost Bool) :
    (s.release alloc levels csLow).Good := by
  have hreleased : (releasedState alloc levels csLow).Good :=
    ⟨(releasedState_blank alloc levels csLow).scheduled rfl rfl (by simp [releasedState]) (by simp [releasedState]),
      Engine.sound_startup⟩
  unfold State.release
  split
  · exact State.SameSchedule.good (s := releasedState alloc levels csLow) ⟨rfl, rfl, rfl, rfl, rfl⟩ hreleased
  · exact h

theorem State.risingEdge_sameSchedule (s : State) (line : Line) : s.SameSchedule (s.risingEdge line) :=
  .ite (.refl s) ⟨rfl, rfl, rfl, rfl, rfl⟩

theorem State.beginTransaction_sameSchedule (s : State) (host : HostId) : s.SameSchedule (s.beginTransaction host) :=
  .ite (s.setPort_sameSchedule ..) (.refl s)

/-- The successor of every command, given the state it keeps. -/
theorem State.Good.exec {s t : State} (h : s.Good) {i : Instr} (hi : exec i s = .next t) : t.Good := by
  have hnext {u : State} (hu : u.Good) (hi : Host.Outcome.next (φ := Fault) (ρ := Refusal) u = .next t) : t.Good := by
    cases hi
    exact hu
  cases i with
  | resetNAssert => exact hnext s.asserted_good hi
  | resetNRelease alloc levels csLow => exact hnext (h.release alloc levels csLow) hi
  | transactionBegin host => exact hnext (h.live (s.beginTransaction_sameSchedule host).good) hi
  | transactionEnd host sdi => exact hnext (h.live (s.setPort_sameSchedule host _).good) hi
  | responseReady host => exact hnext (h.live (s.setPort_sameSchedule host _).good) hi
  | nop host args => exact hnext (Keeps.take (Keeps.expecting (fun _ hs => hs) _ _) h _ _) hi
  | status host args => exact hnext (Keeps.take (Keeps.expecting (fun u hs => u.drawn_sameSchedule.good hs) _ _) h _ _) hi
  | defineSeq host args =>
    refine hnext (Keeps.take (fun u hu => ?_) h _ _) hi
    split
    · exact hu
    · exact State.Good.defineSeq host (seqArgs_steps ‹_›) u hu
  | deleteSeq host args => exact hnext (Keeps.take (Keeps.seqCommand (State.Good.deleteSeq host) _) h _ _) hi
  | readSeq host args => exact hnext (Keeps.take (Keeps.seqCommand (State.Good.readSeq host) _) h _ _) hi
  | createJob host args =>
    refine hnext (Keeps.take (Keeps.expecting (fun u hu => ?_) _ _) h _ _) hi
    split
    · exact hu
    · exact State.Good.createJob host (jobArgs_inRange ‹_›) u hu
  | armJob host args => exact hnext (Keeps.take (Keeps.jobCommand (fun j u hu _ => State.Good.armJob j u hu) _ _) h _ _) hi
  | disarmJob host args =>
    exact hnext (Keeps.take (Keeps.jobCommand (fun j u hu _ => State.Good.disarmJob j u hu) _ _) h _ _) hi
  | startJob host args =>
    exact hnext (Keeps.take (Keeps.jobCommand (fun j u hu _ => State.Good.startJob j u hu) _ _) h _ _) hi
  | abortJob host args =>
    exact hnext (Keeps.take (Keeps.jobCommand (fun _ _ hu hg => hu.abortJob hg) _ _) h _ _) hi
  | deleteJob host args =>
    exact hnext (Keeps.take (Keeps.jobCommand (fun j u hu _ => State.Good.deleteJob j u hu) _ _) h _ _) hi
  | jobStatus host args =>
    exact hnext (Keeps.take (Keeps.jobCommand (fun _ u hu _ => u.drawn_sameSchedule.good hu) _ _) h _ _) hi
  | fetchFrame host args => exact hnext (Keeps.take (Keeps.expecting (State.Good.fetchFrame host) _ _) h _ _) hi
  | flushFrames host args => exact hnext (Keeps.take (Keeps.expecting (State.Good.flushFrames host) _ _) h _ _) hi
  | setWindow host args =>
    refine hnext (Keeps.take (fun u hu => ?_) h _ _) hi
    split
    · exact hu
    · split
      · exact (u.setWindow_sameSchedule ..).good hu
      · exact hu
  | clearWindow host args =>
    refine hnext (Keeps.take (Keeps.expecting (fun u hu => ?_) _ _) h _ _) hi
    split
    · exact hu
    · exact (u.clearWindow_sameSchedule host _).good hu
  | acquireHold host args => exact hnext (Keeps.take (Keeps.groupCommand (State.Good.acquireHold host _) _ _) h _ _) hi
  | renewHold host args => exact hnext (Keeps.take (Keeps.groupCommand (State.Good.renewHold host) _ _) h _ _) hi
  | releaseHold host args => exact hnext (Keeps.take (Keeps.groupCommand (State.Good.releaseHold host) _ _) h _ _) hi
  | claimExc host args =>
    refine hnext (Keeps.take (Keeps.expecting (fun u hu => ?_) _ _) h _ _) hi
    split
    · exact hu
    · exact State.Good.claimExc host _ u hu
  | requestCal host args => exact hnext (Keeps.take (Keeps.expecting (State.Good.requestCal host) _ _) h _ _) hi
  | setCalInterval host args =>
    exact hnext (Keeps.take (Keeps.expecting (State.Good.setCalInterval host (argPair_le args 0)) _ _) h _ _) hi
  | readEvents host args => exact hnext (Keeps.take (Keeps.expecting (State.Good.readEvents host _) _ _) h _ _) hi
  | hostReset host args => exact hnext (Keeps.take (Keeps.expecting (State.Good.hostReset host) _ _) h _ _) hi
  | trigEdge host => exact hnext (h.live (s.risingEdge_sameSchedule _).good) hi
  | xtEdge n => exact hnext (h.live (s.risingEdge_sameSchedule _).good) hi
  | periodExpiry j => exact hnext (h.live fun hs => hs.periodTrigger j) hi
  | triggerPresented o => exact hnext (h.live fun hs => hs.present o) hi
  | stepComplete code => exact hnext (h.live fun hs => hs.stepComplete code) hi
  | calibrationComplete result => exact hnext (h.live fun hs => hs.calComplete result) hi
  | settleExpiry => exact hnext (h.live State.Good.settle) hi
  | deadlineExpiry j => exact hnext (h.live fun hs => hs.deadlineReached j) hi
  | leaseExpiry g => exact hnext (h.live fun hs => hs.leaseReached g) hi
  | triggerLineFallingEdge l =>
    exact hnext (h.live (State.SameSchedule.good (s := s) ⟨rfl, rfl, rfl, rfl, rfl⟩)) hi

theorem State.Good.step {s t : State} (h : s.Good) (ht : step s = .next t) : t.Good := by
  have hchosen : s.afterChoice.Good := (s.drawnFor_sameSchedule _).good h
  unfold Machine.step at ht
  split at ht
  · rename_i rest _
    have hpopped : ({ s with pending := rest } : State).Good :=
      State.SameSchedule.good (s := s) ⟨rfl, rfl, rfl, rfl, rfl⟩ h
    exact hpopped.exec ht
  · split at ht
    · cases ht
      exact h
    · exact hchosen.exec ht
    · cases ht
      exact hchosen.freeDecision
    · cases ht
      exact State.SameSchedule.good (s := s.afterChoice) ⟨rfl, rfl, rfl, rfl, rfl⟩ hchosen

/-- Settles O58: `State.Good` is kept by every command, and so by every step. -/
theorem stepsKeepTheScheduleSound : Obligations.StepsKeepTheScheduleSound := by
  intro s t hscheduled hengine ht
  have hgood := State.Good.step ⟨hscheduled, hengine⟩ ht
  exact ⟨hgood.scheduled, hgood.engine⟩

end Sys2Proof.Machine

namespace Sys2Proof.Machine

/-! ## What leaving the groups grants (R139, R141) -/

/-- The hold on a group waited for one job alone, and is granted when this job leaves the group. -/
def State.WaitedFor (s : State) (j : JobId) (g : GroupId) : Prop :=
  (s.job j).cls = .routine ∧ (s.seqOf j).touches g = true ∧ (s.groups.at g).occupants.at j = true ∧
    (s.groups.at g).state = .pending ∧
    ∀ k : JobId, k ≠ j → (s.groups.at g).occupants.at k = true → (s.job k).owner = (s.groups.at g).host

/-- The moment at which a lease that starts now runs out. -/
def State.leaseEnd (s : State) (g : GroupId) : Time := after s.timeBase (1000 * (s.groups.at g).lease)

/-- The record that a grant is reported with. -/
def State.grantRecord (s : State) (g : GroupId) : Event :=
  ⟨s.timeBase, none, none, .holdGranted g (s.groups.at g).lease (s.leaseEnd g)⟩

theorem State.foldl_grant_groups (l : List GroupId) (s : State) (g : GroupId) :
    (l.foldl State.grant s).groups.at g =
      if g ∈ l then { s.groups.at g with state := .held, expiry := s.leaseEnd g } else s.groups.at g := by
  induction l generalizing s with
  | nil => simp
  | cons x l ih =>
    have hx : (s.grant x).groups.at g =
        if g = x then { s.groups.at g with state := .held, expiry := s.leaseEnd g } else s.groups.at g := by
      change (s.groups.put x _).at g = _
      rw [Table.at_put]
      split
      · subst g
        rfl
      · rfl
    have hend : (s.grant x).leaseEnd g = s.leaseEnd g := by
      unfold State.leaseEnd
      rw [hx]
      split <;> rfl
    rw [List.foldl_cons, ih, hx, hend]
    by_cases hg : g = x
    · simp [hg]
    · simp [hg]

theorem State.foldl_grant_events (l : List GroupId) (s : State) (h : HostId) :
    (l.foldl State.grant s).events.get h =
      (l.filter fun g => decide ((s.groups.at g).host = h)).foldl (fun q g => q.push (s.grantRecord g)) (s.events.get h) := by
  induction l generalizing s with
  | nil => rfl
  | cons x l ih =>
    have hgroup (g : GroupId) : ((s.grant x).groups.at g).host = (s.groups.at g).host ∧
        (s.grant x).grantRecord g = s.grantRecord g := by
      have hx : (s.grant x).groups.at g =
          if g = x then { s.groups.at g with state := .held, expiry := s.leaseEnd g } else s.groups.at g := by
        have := State.foldl_grant_groups [x] s g
        simpa using this
      unfold State.grantRecord State.leaseEnd
      rw [hx]
      split <;> exact ⟨rfl, rfl⟩
    have hevents : (s.grant x).events.get h =
        if (s.groups.at x).host = h then (s.events.get h).push (s.grantRecord x) else s.events.get h := by
      change (s.events.put (s.groups.at x).host _).get h = _
      rw [PerHost.get_put]
      split
      · subst h
        rw [if_pos rfl]
        rfl
      · rw [if_neg (Ne.symm ‹_›)]
    rw [List.foldl_cons, ih, hevents]
    simp only [hgroup]
    rw [List.filter_cons]
    split <;> simp [*]

theorem State.foreignOccupants_eq_zero_iff (s : State) (g : GroupId) (h : HostId) :
    s.foreignOccupants g h = 0 ↔ ∀ k : JobId, (s.groups.at g).occupants.at k = true → (s.job k).owner = h := by
  simp [State.foreignOccupants, List.filter_eq_nil_iff, mem_allJobs]

theorem allGroups_nodup : allGroups.Nodup := by decide

theorem State.vacate_of_urgent {s : State} {j : JobId} (hc : (s.job j).cls = .urgent) : s.vacate j = s := by
  unfold State.vacate
  rw [hc]

/-- The groups in whose occupant sets a job stands, among those its sequence touches. -/
def State.leftGroups (s : State) (j : JobId) : List GroupId :=
  (s.groupsOf j).filter fun g => (s.groups.at g).occupants.at j

theorem State.mem_leftGroups {s : State} {j : JobId} {g : GroupId} :
    g ∈ s.leftGroups j ↔ (s.seqOf j).touches g = true ∧ (s.groups.at g).occupants.at j = true := by
  simp [State.leftGroups, State.mem_groupsOf]

/-- The state once a job has left its groups, before any grant. -/
def State.left (s : State) (j : JobId) : State := (s.leftGroups j).foldl (fun t g => t.markOccupant j false g) s

theorem State.left_eq (s : State) (j : JobId) : s.left j = { s with groups := (s.left j).groups } :=
  (State.foldl_markOccupant j false (s.leftGroups j) s).1

theorem State.left_group {s : State} {j : JobId} (hc : (s.job j).cls = .routine) (g : GroupId) :
    (s.left j).groups.at g = s.groupWithout j g := by
  rw [State.left, (State.foldl_markOccupant j false (s.leftGroups j) s).2, State.groupWithout]
  by_cases ht : (s.seqOf j).touches g = true
  · by_cases ho : (s.groups.at g).occupants.at j = true
    · rw [if_pos (State.mem_leftGroups.2 ⟨ht, ho⟩), if_pos ⟨hc, ht⟩]
    · have hself : (s.groups.at g).occupants.put j false = (s.groups.at g).occupants := by
        rw [← Bool.eq_false_iff.2 ho, Table.put_at]
      rw [if_neg fun hg => ho (State.mem_leftGroups.1 hg).2, if_pos ⟨hc, ht⟩, hself]
  · rw [if_neg fun hg => ht (State.mem_leftGroups.1 hg).1, if_neg fun hg => ht hg.2]

theorem State.groupWithout_fields (s : State) (j : JobId) (g : GroupId) :
    (s.groupWithout j g).state = (s.groups.at g).state ∧ (s.groupWithout j g).host = (s.groups.at g).host ∧
    (s.groupWithout j g).lease = (s.groups.at g).lease ∧ (s.groupWithout j g).expiry = (s.groups.at g).expiry := by
  unfold State.groupWithout
  split <;> exact ⟨rfl, rfl, rfl, rfl⟩

theorem State.left_job (s : State) (j k : JobId) : (s.left j).job k = s.job k := by
  rw [s.left_eq j]
  rfl

/-- A group that the job has left is granted exactly when its hold waited for this job alone. -/
theorem State.left_grantable {s : State} {j : JobId} (hc : (s.job j).cls = .routine) {g : GroupId} :
    g ∈ (s.leftGroups j).filter (s.left j).grantable ↔ s.WaitedFor j g := by
  obtain ⟨hstate, hhost, _, _⟩ := s.groupWithout_fields j g
  simp only [List.mem_filter, State.mem_leftGroups, State.grantable, Bool.and_eq_true, beq_iff_eq,
    State.foreignOccupants_eq_zero_iff, State.left_group hc, hstate, hhost, State.left_job, State.WaitedFor]
  constructor
  · rintro ⟨⟨ht, ho⟩, hp, hall⟩
    refine ⟨hc, ht, ho, hp, fun k hk hoc => hall k ?_⟩
    rw [State.groupWithout, if_pos ⟨hc, ht⟩, Table.at_put_of_ne _ _ hk]
    exact hoc
  · rintro ⟨_, ht, ho, hp, hall⟩
    refine ⟨⟨ht, ho⟩, hp, fun k hoc => ?_⟩
    rw [State.groupWithout, if_pos ⟨hc, ht⟩, Table.at_put] at hoc
    split at hoc
    · cases hoc
    · exact hall k ‹_› hoc

/-- A ROUTINE job's leaving, as one run of grants in an open order. -/
theorem State.vacate_of_routine {s : State} {j : JobId} (hc : (s.job j).cls = .routine) :
    ∃ (t : State) (order : List GroupId),
      s.vacate j = order.foldl State.grant t ∧ t.groups = (s.left j).groups ∧ t.events = s.events ∧
      t.timeBase = s.timeBase ∧ order.Nodup ∧ ∀ g, g ∈ order ↔ s.WaitedFor j g := by
  have hvacate : s.vacate j = ((s.left j).openOrder (fun g => g.val) ((s.leftGroups j).filter (s.left j).grantable)).foldl
      State.grant ((s.left j).drawnFor ((s.leftGroups j).filter (s.left j).grantable)) := by
    unfold State.vacate
    rw [hc]
    rfl
  have hdrawn (l : List GroupId) : ((s.left j).drawnFor l).groups = (s.left j).groups ∧
      ((s.left j).drawnFor l).events = s.events ∧ ((s.left j).drawnFor l).timeBase = s.timeBase := by
    rw [s.left_eq j]
    unfold State.drawnFor
    split <;> exact ⟨rfl, rfl, rfl⟩
  obtain ⟨hgroups, hevents, htime⟩ := hdrawn ((s.leftGroups j).filter (s.left j).grantable)
  have hperm := sortRanked_perm (fun g => Config.orderRank (s.left j).draws (Fin.val g))
    ((s.leftGroups j).filter (s.left j).grantable)
  refine ⟨_, _, hvacate, hgroups, hevents, htime, ?_, fun g => ?_⟩
  · exact hperm.nodup_iff.2 (((allGroups_nodup.filter _).filter _).filter _)
  · exact hperm.mem_iff.trans (State.left_grantable hc)

/-- Every group after a job has left: without the job, and HELD when its hold waited for this job alone. -/
theorem State.vacate_group (s : State) (j : JobId) (g : GroupId) :
    (s.WaitedFor j g → (s.vacate j).groups.at g = { s.groupWithout j g with state := .held, expiry := s.leaseEnd g }) ∧
    (¬ s.WaitedFor j g → (s.vacate j).groups.at g = s.groupWithout j g) := by
  cases hc : (s.job j).cls with
  | urgent =>
    have hw : ¬ s.WaitedFor j g := fun hw => by simp [State.WaitedFor, hc] at hw
    refine ⟨fun h => absurd h hw, fun _ => ?_⟩
    rw [State.vacate_of_urgent hc, State.groupWithout, if_neg (by simp [hc])]
  | routine =>
    obtain ⟨t, order, heq, hgroups, _, htime, _, hmem⟩ := State.vacate_of_routine hc
    have hgroup : t.groups.at g = s.groupWithout j g := by rw [hgroups, State.left_group hc]
    have hend : t.leaseEnd g = s.leaseEnd g := by
      rw [State.leaseEnd, hgroup, htime, (s.groupWithout_fields j g).2.2.1]
      rfl
    rw [heq, State.foldl_grant_groups, hgroup, hend]
    exact ⟨fun h => if_pos ((hmem g).2 h), fun h => if_neg fun hg => h ((hmem g).1 hg)⟩

/-- Every host's events after a job has left: the grants of its holds that waited for this job alone. -/
theorem State.vacate_events (s : State) (j : JobId) (h : HostId) :
    ∃ order : List GroupId, order.Nodup ∧ (∀ g, g ∈ order ↔ s.WaitedFor j g ∧ (s.groups.at g).host = h) ∧
      (s.vacate j).events.get h = order.foldl (fun q g => q.push (s.grantRecord g)) (s.events.get h) := by
  cases hc : (s.job j).cls with
  | urgent =>
    refine ⟨[], List.nodup_nil, fun g => ?_, by rw [State.vacate_of_urgent hc]; rfl⟩
    simp [State.WaitedFor, hc]
  | routine =>
    obtain ⟨t, order, heq, hgroups, hevents, htime, hnodup, hmem⟩ := State.vacate_of_routine hc
    have hgroup (g : GroupId) : (t.groups.at g).host = (s.groups.at g).host ∧ t.grantRecord g = s.grantRecord g := by
      obtain ⟨_, hhost, hlease, _⟩ := s.groupWithout_fields j g
      rw [State.grantRecord, State.leaseEnd, hgroups, State.left_group hc, htime, hhost, hlease]
      exact ⟨rfl, rfl⟩
    refine ⟨order.filter fun g => decide ((s.groups.at g).host = h), hnodup.filter _, fun g => ?_, ?_⟩
    · simp [hmem]
    · rw [heq, State.foldl_grant_events, hevents]
      simp only [hgroup]

end Sys2Proof.Machine

namespace Sys2Proof.Machine

/-! ## Several removals of claims come to one fall of the output level (R129, R133) -/

theorem foldl_max_rank_le (l : List (Option Level)) (m : Level) (n : Nat) :
    (l.foldl (fun m c => m.max (c.getD .off)) m).rank ≤ n ↔ m.rank ≤ n ∧ ∀ c ∈ l, (c.getD .off).rank ≤ n := by
  induction l generalizing m with
  | nil => simp
  | cons x l ih =>
    rw [List.foldl_cons, ih, Level.max_rank, List.forall_mem_cons]
    change max m.rank (x.getD Level.off).rank ≤ n ∧ _ ↔ _
    rw [max_le_iff, and_assoc]

/-- The highest claim is the least bound of all claims (R129). -/
theorem Excitation.claimed_rank_le (e : Excitation) (n : Nat) :
    e.claimed.rank ≤ n ↔ (∀ h, (e.standing.get h).rank ≤ n) ∧ ∀ j : JobId, ((e.transient.at j).getD .off).rank ≤ n := by
  have hstanding : (∀ h, (e.standing.get h).rank ≤ n) ↔
      (e.standing.h0.rank ≤ n ∧ e.standing.h1.rank ≤ n) ∧ e.standing.h2.rank ≤ n := by
    constructor
    · exact fun h => ⟨⟨h .h0, h .h1⟩, h .h2⟩
    · rintro ⟨⟨h0, h1⟩, h2⟩ (_ | _ | _)
      · exact h0
      · exact h1
      · exact h2
  have htransient : (∀ c ∈ e.transient.toList, (c.getD .off).rank ≤ n) ↔
      ∀ j : JobId, ((e.transient.at j).getD .off).rank ≤ n := by
    simp only [Vector.mem_toList_iff, Vector.mem_iff_getElem]
    constructor
    · exact fun h j => h _ ⟨j.val, j.isLt, rfl⟩
    · rintro h c ⟨i, hi, rfl⟩
      exact h ⟨i, hi⟩
  rw [Excitation.claimed, Level.max_rank, Level.max_rank, Level.max_rank]
  change max (max (max e.standing.h0.rank e.standing.h1.rank) e.standing.h2.rank) e.highestTransient.rank ≤ n ↔ _
  rw [max_le_iff, max_le_iff, max_le_iff, hstanding, Excitation.highestTransient, foldl_max_rank_le, htransient]
  simp [Level.rank]

/-- Lowering claims lowers the highest one. -/
theorem Excitation.claimed_mono {e f : Excitation} (hstanding : ∀ h, (f.standing.get h).rank ≤ (e.standing.get h).rank)
    (htransient : ∀ j : JobId, ((f.transient.at j).getD .off).rank ≤ ((e.transient.at j).getD .off).rank) :
    f.claimed.rank ≤ e.claimed.rank := by
  obtain ⟨hs, ht⟩ := (e.claimed_rank_le e.claimed.rank).1 le_rfl
  exact (f.claimed_rank_le _).2 ⟨fun h => (hstanding h).trans (hs h), fun j => (htransient j).trans (ht j)⟩

/-- The excitation after its output has fallen, in one or in several falls of one moment, to a level: without a settling
that this level would still need, the level is settled; otherwise settling goes on, afresh when the level is new. -/
def Excitation.FellTo (e f : Excitation) (now : Time) (c : Level) : Prop :=
  ((e.target = none ∨ c.rank ≤ e.settled.rank) ∧ f.settled = c ∧ f.target = none) ∨
  ((e.target ≠ none ∧ e.settled.rank < c.rank) ∧ f.settled = e.settled ∧ f.target = some c ∧
    f.expiry = if c.rank < e.output.rank then after now c.settleTime else e.expiry)

theorem Excitation.FellTo.agree {e f f' : Excitation} {now : Time} {c : Level} (h : e.FellTo f now c)
    (h' : e.FellTo f' now c) :
    f.settled = f'.settled ∧ f.target = f'.target ∧ (f'.target ≠ none → f.expiry = f'.expiry) := by
  rcases h with ⟨hc, hs, ht⟩ | ⟨⟨hn, hlt⟩, hs, ht, hx⟩ <;> rcases h' with ⟨hc', hs', ht'⟩ | ⟨⟨hn', hlt'⟩, hs', ht', hx'⟩
  · exact ⟨hs.trans hs'.symm, ht.trans ht'.symm, fun h => absurd ht' h⟩
  · rcases hc with hc | hc
    · exact absurd hc hn'
    · omega
  · rcases hc' with hc' | hc'
    · exact absurd hc' hn
    · omega
  · exact ⟨hs.trans hs'.symm, ht.trans ht'.symm, fun _ => hx.trans hx'.symm⟩

/-- A sound excitation has fallen to its own output. -/
theorem Excitation.Sound.fellTo {e : Excitation} (h : e.Sound) (now : Time) : e.FellTo e now e.output := by
  obtain ⟨_, htarget⟩ := h
  cases ht : e.target with
  | none =>
    simp only [ht] at htarget
    exact .inl ⟨.inl ht, htarget, ht⟩
  | some l =>
    simp only [ht] at htarget
    obtain ⟨rfl, hlt⟩ := htarget
    exact .inr ⟨⟨by simp [ht], hlt⟩, rfl, ht, by simp⟩

/-- One fall more. -/
theorem Excitation.FellTo.recompute {e f : Excitation} {now : Time} (h : e.FellTo f now f.output)
    (hle : f.output.rank ≤ e.output.rank) (standing : PerHost Level) (transient : Table (Option Level) 24)
    (hc : ({ f with standing := standing, transient := transient } : Excitation).claimed.rank ≤ f.output.rank) :
    e.FellTo (Excitation.recompute { f with standing := standing, transient := transient } now) now
      ({ f with standing := standing, transient := transient } : Excitation).claimed := by
  generalize hg : ({ f with standing := standing, transient := transient } : Excitation) = g at hc ⊢
  have hout : g.output = f.output ∧ g.settled = f.settled ∧ g.target = f.target ∧ g.expiry = f.expiry := by
    rw [← hg]
    exact ⟨rfl, rfl, rfl, rfl⟩
  obtain ⟨houtput, hsettled, htarget, hexpiry⟩ := hout
  unfold Excitation.recompute
  rw [houtput, if_neg (by omega)]
  split
  · rename_i hlt
    unfold Excitation.dropTo
    rw [htarget, hsettled]
    rcases h with ⟨hnone, hs, ht⟩ | ⟨⟨hn, hlow⟩, hs, ht, _⟩
    · rw [ht, hs]
      refine .inl ⟨hnone.imp_right fun hle' => by omega, ?_, rfl⟩
      exact if_neg (by omega)
    · rw [ht]
      dsimp only
      rw [hs]
      split
      · exact .inl ⟨.inr ‹_›, rfl, rfl⟩
      · exact .inr ⟨⟨hn, by omega⟩, rfl, rfl, (if_pos (by omega)).symm⟩
  · have heq : g.claimed = f.output := Level.rank_injective (by omega)
    rw [heq]
    unfold Excitation.FellTo at h ⊢
    rwa [hsettled, htarget, hexpiry]

/-- The excitation of a moment in which claims have been removed, one after the other. -/
structure Excitation.Fallen (e f : Excitation) (now : Time) : Prop where
  output : f.output = f.claimed
  standing : ∀ h, (f.standing.get h).rank ≤ (e.standing.get h).rank
  transient : ∀ j : JobId, ((f.transient.at j).getD .off).rank ≤ ((e.transient.at j).getD .off).rank
  fellTo : e.FellTo f now f.output

theorem Excitation.Sound.fallen {e : Excitation} (h : e.Sound) (now : Time) : e.Fallen e now :=
  ⟨h.1, fun _ => le_rfl, fun _ => le_rfl, h.fellTo now⟩

theorem Excitation.Fallen.recompute {e f : Excitation} {now : Time} (he : e.Sound) (h : e.Fallen f now)
    {standing : PerHost Level} {transient : Table (Option Level) 24}
    (hs : ∀ k, (standing.get k).rank ≤ (f.standing.get k).rank)
    (ht : ∀ j : JobId, ((transient.at j).getD .off).rank ≤ ((f.transient.at j).getD .off).rank) :
    e.Fallen (Excitation.recompute { f with standing := standing, transient := transient } now) now := by
  have hclaimed : f.claimed.rank ≤ e.claimed.rank := Excitation.claimed_mono h.standing h.transient
  refine ⟨?_, fun k => ?_, fun j => ?_, ?_⟩
  · rw [Excitation.recompute_output, Excitation.claimed, Excitation.claimed, Excitation.recompute_standing,
      Excitation.highestTransient, Excitation.highestTransient, Excitation.recompute_transient]
  · rw [Excitation.recompute_standing]
    exact (hs k).trans (h.standing k)
  · rw [Excitation.recompute_transient]
    exact (ht j).trans (h.transient j)
  · rw [Excitation.recompute_output]
    refine h.fellTo.recompute ?_ standing transient ?_
    · rw [h.output, he.1]
      exact hclaimed
    · rw [h.output]
      exact Excitation.claimed_mono hs ht

/-- Several removals come to one. -/
theorem Excitation.Fallen.once {e f : Excitation} {now : Time} (he : e.Sound) (h : e.Fallen f now) :
    let left := Excitation.recompute { e with standing := f.standing, transient := f.transient } now
    f.settled = left.settled ∧ f.target = left.target ∧ (left.target ≠ none → f.expiry = left.expiry) := by
  have hleft := (he.fallen now).recompute he (standing := f.standing) (transient := f.transient) h.standing h.transient
  have hout : (Excitation.recompute { e with standing := f.standing, transient := f.transient } now).output = f.output := by
    rw [Excitation.recompute_output, h.output]
    rfl
  have := hleft.fellTo
  rw [hout] at this
  exact h.fellTo.agree this

end Sys2Proof.Machine

namespace Sys2Proof.Machine

/-! ## Frames that come back (R57, R72) -/

/-- Frame records with those of a list freed. -/
def freedFrames (frames : Table Frame 48) (l : List FrameId) : Table Frame 48 :=
  l.foldl (fun t f => t.put f Frame.free) frames

theorem freedFrames_at (frames : Table Frame 48) (l : List FrameId) (f : FrameId) :
    (freedFrames frames l).at f = if f ∈ l then Frame.free else frames.at f := by
  unfold freedFrames
  induction l generalizing frames with
  | nil => simp
  | cons x l ih =>
    rw [List.foldl_cons, ih, Table.at_put]
    by_cases hf : f = x <;> simp [hf]

/-- The Result Store with a list of a host's frames returned. -/
def State.withReturned (s : State) (h : HostId) (l : List FrameId) : State :=
  { s with
    frames := freedFrames s.frames l, pool := s.pool ++ l, inUse := s.inUse.put h (s.inUse.get h - l.length) }

theorem State.foldl_returnFrame (h : HostId) (l : List FrameId) (s : State) :
    l.foldl (fun t f => t.returnFrame h f) s = s.withReturned h l := by
  induction l generalizing s with
  | nil => simp [State.withReturned, freedFrames]
  | cons x l ih =>
    rw [List.foldl_cons, ih]
    simp [State.withReturned, State.returnFrame, freedFrames, Nat.sub_sub, Nat.add_comm]

theorem State.flushDelivery_eq (s : State) (h : HostId) :
    s.flushDelivery h = { s.withReturned h (s.delivery.get h) with delivery := s.delivery.put h [] } := by
  unfold State.flushDelivery
  rw [State.foldl_returnFrame]
  rfl

/-- The state once a run has given back its frame, if it holds one, its claim and its deadline timer. -/
def State.runGivenBack (s : State) (j : JobId) : State :=
  { s.withReturned (s.job j).owner (s.job j).fillFrame.toList with
    jobs := s.jobs.put j { s.job j with fillFrame := none, deadlineTimer := none }, exc := s.excWithout j }

theorem State.releaseRun_eq (s : State) (j : JobId) : s.releaseRun j = (s.runGivenBack j).vacate j := by
  cases hf : (s.job j).fillFrame with
  | some f =>
    have hgiven : s.runGivenBack j = { s with
        jobs := s.jobs.put j { s.job j with fillFrame := none, deadlineTimer := none }
        frames := s.frames.put f Frame.free, pool := s.pool ++ [f]
        inUse := s.inUse.put (s.job j).owner (s.inUse.get (s.job j).owner - 1), exc := s.excWithout j } := by
      unfold State.runGivenBack
      rw [hf]
      rfl
    rw [State.releaseRun_of_some hf, hgiven]
  | none =>
    have hgiven : s.runGivenBack j = { s with
        jobs := s.jobs.put j { s.job j with deadlineTimer := none }, exc := s.excWithout j } := by
      simp [State.runGivenBack, State.withReturned, freedFrames, hf]
    unfold State.releaseRun State.releaseFill
    rw [hf, hgiven]
    refine congrArg (State.vacate · j) ?_
    simp [State.removeClaim, State.cancelDeadline, State.setTransient, State.setJob, State.job, State.excWithout]

/-! ## The holds of a state, for one job's leaving -/

/-- The items that a job's leaving reads and writes. -/
structure State.SameHolds (s t : State) : Prop where
  groups : t.groups = s.groups
  events : t.events = s.events
  timeBase : t.timeBase = s.timeBase
  seqs : t.seqs = s.seqs
  job : ∀ k, (t.job k).cls = (s.job k).cls ∧ (t.job k).owner = (s.job k).owner ∧ (t.job k).seq = (s.job k).seq

/-- The groups and events of a state that a job has left. -/
structure State.Vacated (s : State) (j : JobId) (t : State) : Prop where
  waited : ∀ g, s.WaitedFor j g → t.groups.at g = { s.groupWithout j g with state := .held, expiry := s.leaseEnd g }
  unwaited : ∀ g, ¬ s.WaitedFor j g → t.groups.at g = s.groupWithout j g
  events : ∀ h, ∃ order : List GroupId, order.Nodup ∧ (∀ g, g ∈ order ↔ s.WaitedFor j g ∧ (s.groups.at g).host = h) ∧
    t.events.get h = order.foldl (fun q g => q.push (s.grantRecord g)) (s.events.get h)

theorem State.vacate_vacated (s : State) (j : JobId) : s.Vacated j (s.vacate j) :=
  ⟨fun g => (s.vacate_group j g).1, fun g => (s.vacate_group j g).2, s.vacate_events j⟩

theorem State.Vacated.congr {s t u : State} {j : JobId} (h : s.Vacated j t) (hg : u.groups = t.groups)
    (he : u.events = t.events) : s.Vacated j u :=
  ⟨fun g hw => by rw [hg, h.waited g hw], fun g hw => by rw [hg, h.unwaited g hw], fun k => by rw [he]; exact h.events k⟩

theorem State.SameHolds.vacated {s t : State} (h : s.SameHolds t) (j : JobId) {u : State} (hu : t.Vacated j u) :
    s.Vacated j u := by
  obtain ⟨hgroups, hevents, htime, hseqs, hjob⟩ := h
  have hseqOf : t.seqOf j = s.seqOf j := by rw [State.seqOf, State.seqOf, hseqs, (hjob j).2.2]
  have hwaited (g : GroupId) : t.WaitedFor j g ↔ s.WaitedFor j g := by
    unfold State.WaitedFor
    simp only [hgroups, hseqOf, (hjob _).1, (hjob _).2.1]
  have hwithout (g : GroupId) : t.groupWithout j g = s.groupWithout j g := by
    unfold State.groupWithout
    rw [hgroups, hseqOf, (hjob j).1]
  have hend (g : GroupId) : t.leaseEnd g = s.leaseEnd g := by rw [State.leaseEnd, State.leaseEnd, hgroups, htime]
  have hrecord (g : GroupId) : t.grantRecord g = s.grantRecord g := by
    rw [State.grantRecord, State.grantRecord, hend, hgroups, htime]
  refine ⟨fun g hw => ?_, fun g hw => ?_, fun k => ?_⟩
  · rw [hu.waited g ((hwaited g).2 hw), hwithout, hend]
  · rw [hu.unwaited g (mt (hwaited g).1 hw), hwithout]
  · have := hu.events k
    simpa only [hwaited, hgroups, hrecord, hevents] using this

theorem State.releaseRun_vacated (s : State) (j : JobId) : s.Vacated j (s.releaseRun j) := by
  rw [State.releaseRun_eq]
  refine State.SameHolds.vacated (s := s) (t := s.runGivenBack j) ⟨rfl, rfl, rfl, rfl, fun k => ?_⟩ j (State.vacate_vacated _ j)
  have hjob : (s.runGivenBack j).job k = if k = j then { s.job j with fillFrame := none, deadlineTimer := none }
      else s.job k := Table.at_put ..
  rw [hjob]
  split
  · subst k
    exact ⟨rfl, rfl, rfl⟩
  · exact ⟨rfl, rfl, rfl⟩

theorem State.dequeue_sameHolds (s : State) (j : JobId) : s.SameHolds (s.dequeue j) := by
  refine ⟨rfl, rfl, rfl, rfl, fun k => ?_⟩
  rw [State.job, State.dequeue_jobs, Table.at_put]
  split
  · subst k
    exact ⟨rfl, rfl, rfl⟩
  · exact ⟨rfl, rfl, rfl⟩

/-! ## One job's part of a teardown (R23, R51) -/

/-- A job whose record a teardown frees: it has a record, and its step is not in progress. -/
def Job.freedByTeardown (r : Job) : Bool :=
  r.state != .free && r.state != .running && r.state != .stopping

/-- The record that a teardown leaves. -/
def Job.torn (r : Job) : Job :=
  if r.state = .running ∨ r.state = .stopping then
    { r with state := .stopping, stopReason := some .teardown, periodTimer := none, deadlineTimer := none }
  else if r.state = .free then r
  else Job.free

/-- The frame that a teardown takes from a job. -/
def Job.frameAtRest (r : Job) : List FrameId := if r.holdsFrameAtRest then r.fillFrame.toList else []

/-- What the teardown of one job does to every block (R23, R51, R72, R91). -/
structure State.TearsJob (s : State) (j : JobId) (t : State) : Prop where
  kept : s.Kept t
  decisionDue : t.decisionDue = s.decisionDue
  job : ∀ k, t.job k = if k = j then (s.job j).torn else s.job k
  queue : t.queue = s.queue.erase j
  engine : t.engine = if (s.job j).state = .settling then s.engine.released else s.engine
  seqs : t.seqs = if (s.job j).freedByTeardown then s.seqs.put (s.job j).seq (s.seqOf j).dropped else s.seqs
  waiting : t.waiting = if (s.job j).freedByTeardown then s.waiting.filter fun p => p.job != j else s.waiting
  windows : ∀ k, k ≠ (s.job j).owner → t.windows.get k = s.windows.get k
  delivery : t.delivery = s.delivery
  frames : t.frames = freedFrames s.frames (s.job j).frameAtRest
  pool : t.pool = s.pool ++ (s.job j).frameAtRest
  inUse : t.inUse = s.inUse.put (s.job j).owner (s.inUse.get (s.job j).owner - (s.job j).frameAtRest.length)
  exc : t.exc = if (s.job j).holdsFrameAtRest then s.excWithout j else s.exc
  vacated : (s.job j).holdsFrameAtRest = true → s.Vacated j t
  unvacated : (s.job j).holdsFrameAtRest = false → t.groups = s.groups ∧ t.events = s.events

/-- A state in which a job holds nothing and stands nowhere any more, while its record is still there. -/
structure State.LeavesJob (s : State) (j : JobId) (t : State) : Prop where
  kept : s.Kept t
  decisionDue : t.decisionDue = s.decisionDue
  job : ∀ k, k ≠ j → t.job k = s.job k
  record : (t.job j).seq = (s.job j).seq ∧ (t.job j).owner = (s.job j).owner
  queue : t.queue = s.queue.erase j
  seqs : t.seqs = s.seqs
  waiting : t.waiting = s.waiting
  windows : t.windows = s.windows
  delivery : t.delivery = s.delivery
  frames : t.frames = freedFrames s.frames (s.job j).frameAtRest
  pool : t.pool = s.pool ++ (s.job j).frameAtRest
  inUse : t.inUse = s.inUse.put (s.job j).owner (s.inUse.get (s.job j).owner - (s.job j).frameAtRest.length)
  exc : t.exc = if (s.job j).holdsFrameAtRest then s.excWithout j else s.exc
  vacated : (s.job j).holdsFrameAtRest = true → s.Vacated j t
  unvacated : (s.job j).holdsFrameAtRest = false → t.groups = s.groups ∧ t.events = s.events

theorem State.LeavesJob.freeJob {s t : State} {j : JobId} (h : s.LeavesJob j t)
    (hf : (s.job j).freedByTeardown = true)
    (he : (t.freeJob j).engine = if (s.job j).state = .settling then s.engine.released else s.engine) :
    s.TearsJob j (t.freeJob j) := by
  obtain ⟨hseq, howner⟩ := h.record
  have htorn : (s.job j).torn = Job.free := by
    simp only [Job.freedByTeardown, Bool.and_eq_true, bne_iff_ne] at hf
    obtain ⟨⟨hfree, hrun⟩, hstop⟩ := hf
    rw [Job.torn, if_neg (by simp [hrun, hstop]), if_neg hfree]
  have heq := t.freeJob_eq j
  dsimp only at heq
  rw [hseq, howner, h.seqs, h.windows, h.waiting] at heq
  refine ⟨h.kept.trans (t.freeJob_kept j), ?_, fun k => ?_, ?_, he, ?_, ?_, fun k hk => ?_, ?_, ?_, ?_, ?_, ?_,
    fun hh => (h.vacated hh).congr ?_ ?_, fun hh => ?_⟩ <;> rw [heq]
  · exact h.decisionDue
  · change (t.jobs.put j Job.free).at k = _
    rw [Table.at_put, htorn]
    split
    · rfl
    · exact h.job k ‹_›
  · exact h.queue
  · rw [if_pos hf]
    rfl
  · rw [if_pos hf]
  · exact PerHost.get_put_of_ne _ _ hk
  · exact h.delivery
  · exact h.frames
  · exact h.pool
  · exact h.inUse
  · exact h.exc
  · exact h.unvacated hh

theorem State.releaseRun_leavesJob (s : State) {j : JobId} (hh : (s.job j).holdsFrameAtRest = true)
    (hq : s.queue.erase j = s.queue) : s.LeavesJob j (s.releaseRun j) := by
  have hframe : (s.job j).frameAtRest = (s.job j).fillFrame.toList := if_pos hh
  have hjob := (s.releaseRun_sameSchedule j).job
  have heq : s.releaseRun j = _ := (State.releaseRun_eq s j).trans ((s.runGivenBack j).vacate_holdsActed j)
  refine ⟨s.releaseRun_kept j, ?_, fun k hk => ?_, ?_, ?_, ?_, ?_, ?_, ?_, ?_, ?_, ?_, ?_, fun _ => s.releaseRun_vacated j,
    fun hn => ?_⟩
  · rw [heq]
    rfl
  · rw [hjob, State.setJob_job, if_neg hk]
  · rw [hjob, State.setJob_job_same]
    exact ⟨rfl, rfl⟩
  · rw [heq, hq]
    rfl
  iterate 4
    rw [heq]
    rfl
  iterate 3
    rw [heq, hframe]
    rfl
  · rw [heq, if_pos hh]
    rfl
  · rw [hh] at hn
    cases hn

/-- What a job gives back it gives back alike from the queue and from the converter. -/
theorem State.LeavesJob.of_dequeue {s t : State} {j : JobId} (h : (s.dequeue j).LeavesJob j t)
    (hq : (s.dequeue j).queue.erase j = (s.dequeue j).queue) : s.LeavesJob j t := by
  have hrecord : (s.dequeue j).job j = { s.job j with blocked := false } := State.dequeue_job_same ..
  have hholds : ((s.dequeue j).job j).holdsFrameAtRest = (s.job j).holdsFrameAtRest := by rw [hrecord]; rfl
  have hframe : ((s.dequeue j).job j).frameAtRest = (s.job j).frameAtRest := by rw [hrecord]; rfl
  have howner : ((s.dequeue j).job j).owner = (s.job j).owner := by rw [hrecord]
  have hexc : (s.dequeue j).excWithout j = s.excWithout j := rfl
  obtain ⟨hkept, hdue, hjob, hrec, hqueue, hseqs, hwaiting, hwindows, hdelivery, hframes, hpool, hinUse, hexc', hvac,
    hunvac⟩ := h
  rw [hholds] at hexc' hvac hunvac
  rw [hframe] at hframes hpool hinUse
  rw [howner] at hinUse hrec
  rw [hexc] at hexc'
  refine ⟨(s.dequeue_decided j).kept.trans hkept, hdue, fun k hk => ?_, ?_, ?_, hseqs, hwaiting, hwindows, hdelivery,
    hframes, hpool, hinUse, hexc', fun hh => (s.dequeue_sameHolds j).vacated j (hvac hh), hunvac⟩
  · rw [hjob k hk, State.job, State.dequeue_jobs, Table.at_put_of_ne _ _ hk]
    rfl
  · rw [hrecord] at hrec
    exact hrec
  · rw [hqueue, hq]
    rfl

theorem State.LeavesJob.releaseConverter {s t : State} {j : JobId} (h : s.LeavesJob j t) :
    s.LeavesJob j t.releaseConverter :=
  ⟨h.kept.trans t.releaseConverter_kept, h.decisionDue, h.job, h.record, h.queue, h.seqs, h.waiting, h.windows, h.delivery,
    h.frames, h.pool, h.inUse, h.exc, fun hh => (h.vacated hh).congr rfl rfl, h.unvacated⟩

theorem State.dequeue_leavesJob (s : State) {j : JobId} (hh : (s.job j).holdsFrameAtRest = false) :
    s.LeavesJob j (s.dequeue j) := by
  have hframe : (s.job j).frameAtRest = [] := by simp [Job.frameAtRest, hh]
  refine ⟨(s.dequeue_decided j).kept, rfl, fun k hk => ?_, ?_, rfl, rfl, rfl, rfl, rfl, ?_, ?_, ?_, ?_, ?_,
    fun _ => ⟨rfl, rfl⟩⟩
  · rw [State.job, State.dequeue_jobs, Table.at_put_of_ne _ _ hk]
    rfl
  · rw [State.dequeue_job_same]
    exact ⟨rfl, rfl⟩
  all_goals simp [hframe, hh, freedFrames]

theorem State.Scheduled.tearsJob {s : State} (h : s.Scheduled) (j : JobId) : s.TearsJob j (s.tearJob j) := by
  have hengine := (h.tearJob j).2
  obtain ⟨ha, _⟩ := s.scheduled_iff.1 h
  have hj := ha.jobs j
  have hunqueued (hs : (s.job j).state.place ≠ .queue) : s.queue.erase j = s.queue := by
    refine List.erase_of_not_mem ?_
    rwa [hj.queued, JobState.queued_iff]
  rcases (s.job j).state.torn_cases with hs | hs | hs | hs | hs
  · have hfreed : (s.job j).freedByTeardown = false := by simp [Job.freedByTeardown, hs]
    have hholds : (s.job j).holdsFrameAtRest = false := by simp [Job.holdsFrameAtRest, hs]
    have hframe : (s.job j).frameAtRest = [] := by simp [Job.frameAtRest, hholds]
    rw [State.tearJob_of_free hs] at hengine ⊢
    refine ⟨.refl s, rfl, fun k => ?_, (hunqueued (by simp [hs, JobState.place])).symm, hengine, ?_, ?_, fun _ _ => rfl, rfl,
      ?_, ?_, ?_, ?_, ?_, fun _ => ⟨rfl, rfl⟩⟩
    · split
      · subst k
        simp [Job.torn, hs]
      · rfl
    all_goals simp [hfreed, hholds, hframe, freedFrames]
  · have hfreed : (s.job j).freedByTeardown = false := by rcases hs with hs | hs <;> simp [Job.freedByTeardown, hs]
    have hholds : (s.job j).holdsFrameAtRest = false := by rcases hs with hs | hs <;> simp [Job.holdsFrameAtRest, hs]
    have hframe : (s.job j).frameAtRest = [] := by simp [Job.frameAtRest, hholds]
    rw [State.tearJob_of_converting hs] at hengine ⊢
    refine ⟨s.setJob_kept j _, rfl, fun k => ?_, ?_, hengine, ?_, ?_, fun _ _ => rfl, rfl,
      ?_, ?_, ?_, ?_, ?_, fun _ => ⟨rfl, rfl⟩⟩
    · rw [State.setJob_job, Job.torn, if_pos hs]
    · refine (hunqueued ?_).symm
      rw [((s.job j).state.place_eq_converter_iff).2 hs]
      decide
    all_goals simp [hfreed, hholds, hframe, freedFrames]
  · have hfreed : (s.job j).freedByTeardown = true := by simp [Job.freedByTeardown, hs]
    have hholds : (s.job j).holdsFrameAtRest = true := by simp [Job.holdsFrameAtRest, hs]
    rw [State.tearJob_of_settling hs] at hengine ⊢
    have hleaves := s.releaseRun_leavesJob hholds (hunqueued (by simp [hs, JobState.place]))
    exact hleaves.releaseConverter.freeJob hfreed hengine
  · have hfreed : (s.job j).freedByTeardown = true := by simp [Job.freedByTeardown, hs]
    have hholds : ((s.dequeue j).job j).holdsFrameAtRest = true := by simp [Job.holdsFrameAtRest, hs]
    have herased : (s.dequeue j).queue.erase j = (s.dequeue j).queue := List.erase_of_not_mem ha.nodup.not_mem_erase
    rw [State.tearJob_of_preempted hs] at hengine ⊢
    exact (((s.dequeue j).releaseRun_leavesJob hholds herased).of_dequeue herased).freeJob hfreed hengine
  · have hne : (s.job j).state ≠ .free ∧ (s.job j).state ≠ .running ∧ (s.job j).state ≠ .stopping ∧
        (s.job j).state ≠ .settling ∧ (s.job j).state ≠ .preempted := by
      refine ⟨?_, ?_, ?_, ?_, ?_⟩ <;> intro hst <;> simp [hst, JobState.place] at hs
    obtain ⟨hfree, hrun, hstop, hset, hpre⟩ := hne
    have hfreed : (s.job j).freedByTeardown = true := by simp [Job.freedByTeardown, hfree, hrun, hstop]
    have hholds : (s.job j).holdsFrameAtRest = false := by simp [Job.holdsFrameAtRest, hset, hpre]
    rw [State.tearJob_of_waiting hs] at hengine ⊢
    exact (s.dequeue_leavesJob hholds).freeJob hfreed hengine

end Sys2Proof.Machine

namespace Sys2Proof.Machine

/-! ## The jobs of a host, one after the other (R23, R51, R72) -/

/-- A sequence record while the jobs of a host go: unchanged but for its count of references, or a freed orphan. -/
def Seq.Left (q q' : Seq) : Prop :=
  (∃ n, q' = { q with refCount := n }) ∨ (q.defined = true ∧ q.owner = none ∧ q' = Seq.free)

/-- A state in which a list of a host's jobs has been torn down. -/
structure State.Torn (s : State) (h : HostId) (done : List JobId) (t : State) : Prop where
  scheduled : t.Scheduled
  kept : s.Kept t
  decisionDue : t.decisionDue = s.decisionDue
  job : ∀ k, t.job k = if k ∈ done then (s.job k).torn else s.job k
  queue : t.queue = s.queue.filter fun k => decide (k ∉ done)
  engine : t.engine = if ∃ k ∈ done, s.engine.settlingJob = some k then s.engine.released else s.engine
  waiting : t.waiting = s.waiting.filter fun p => decide (p.job ∉ done) || !(s.job p.job).freedByTeardown
  windows : ∀ k, k ≠ h → t.windows.get k = s.windows.get k
  delivery : t.delivery = s.delivery
  frames : t.frames = freedFrames s.frames (done.flatMap fun k => (s.job k).frameAtRest)
  pool : t.pool = s.pool ++ done.flatMap fun k => (s.job k).frameAtRest
  inUse : t.inUse = s.inUse.put h (s.inUse.get h - (done.flatMap fun k => (s.job k).frameAtRest).length)
  standing : t.exc.standing = s.exc.standing
  transient : ∀ k, t.exc.transient.at k =
    if k ∈ done ∧ (s.job k).holdsFrameAtRest = true then none else s.exc.transient.at k
  fallen : s.exc.Sound → s.exc.Fallen t.exc s.timeBase
  seqs : ∀ k, (s.seqs.at k).Left (t.seqs.at k)

theorem freedFrames_append (frames : Table Frame 48) (l m : List FrameId) :
    freedFrames (freedFrames frames l) m = freedFrames frames (l ++ m) := List.foldl_append.symm

theorem Seq.Left.dropped {q q' : Seq} (h : q.Left q') (hd : q'.defined = true) : q.Left q'.dropped := by
  rcases h with ⟨n, rfl⟩ | ⟨_, _, rfl⟩
  · unfold Seq.dropped
    split
    · rename_i horphan
      exact .inr ⟨hd, horphan.1, rfl⟩
    · exact .inl ⟨n - 1, rfl⟩
  · cases hd

theorem State.SequencesSound.defined {s : State} (h : s.SequencesSound) {j : JobId} (hs : (s.job j).state ≠ .free) :
    (s.seqOf j).defined = true := by
  have hpos := h.steps_pos hs
  obtain ⟨_, hundef, _⟩ := h.1 (s.job j).seq
  cases hd : (s.seqs.at (s.job j).seq).defined with
  | true => exact hd
  | false =>
    rw [State.seqOf, (hundef hd).1] at hpos
    cases hpos

section Torn
variable {s t : State} {h : HostId} {done : List JobId} {j : JobId}

theorem State.Torn.start (hs : s.Scheduled) (h : HostId) {α : Type} (l : List α) : s.Torn h [] (s.drawnFor l) := by
  have hdrawn : s.SameSchedule (s.drawnFor l) := s.drawnFor_sameSchedule l
  have heq : s.drawnFor l = s ∨ s.drawnFor l = s.drawn := by
    unfold State.drawnFor
    split
    · exact .inl rfl
    · exact .inr rfl
  obtain ⟨ha, hshape⟩ := s.scheduled_iff.1 hs
  refine ⟨(State.scheduled_iff _).2 ⟨hdrawn.agreed ha, by rw [hdrawn.engine]; exact hshape⟩, ?_, ?_, fun k => ?_, ?_, ?_, ?_,
    fun k _ => ?_, ?_, ?_, ?_, ?_, ?_, fun k => ?_, fun he => ?_, fun k => ?_⟩
  · rcases heq with heq | heq <;> rw [heq]
    · exact .refl s
    · exact ⟨rfl, rfl, rfl, rfl, rfl, rfl, rfl⟩
  · rcases heq with heq | heq <;> rw [heq]
    rfl
  · simpa using hdrawn.job k
  · simpa using hdrawn.queue
  · simpa using hdrawn.engine
  iterate 7
    rcases heq with heq | heq <;> rw [heq] <;> simp [freedFrames]
  · rcases heq with heq | heq <;> rw [heq] <;> simp
  · rcases heq with heq | heq <;> rw [heq]
    · exact he.fallen _
    · exact he.fallen _
  · rw [hdrawn.seqs]
    exact .inl ⟨_, rfl⟩

/-- One job more. -/
theorem State.Torn.tearJob (hs : s.Scheduled) (ht : s.Torn h done t) (hj : j ∉ done) (ho : (s.job j).owner = h) :
    s.Torn h (done ++ [j]) (t.tearJob j) := by
  have hjob : t.job j = s.job j := by rw [ht.job, if_neg hj]
  have he := ht.scheduled.tearsJob j
  obtain ⟨hagreed, hengine⟩ := ht.scheduled.tearJob j
  obtain ⟨_, hshape⟩ := t.scheduled_iff.1 ht.scheduled
  have hsettling : (s.job j).state = .settling ↔ s.engine.settlingJob = some j :=
    ((s.scheduled_iff.1 hs).1.jobs j).settling
  have hnodup : t.queue.Nodup := (t.scheduled_iff.1 ht.scheduled).1.nodup
  obtain ⟨hkept, hdue, hjobs, hqueue, _, hseqs, hwaiting, hwindows, hdelivery, hframes, hpool, hinUse, hexc, _, _⟩ := he
  rw [hjob] at hjobs hengine hseqs hwaiting hwindows hframes hpool hinUse hexc
  rw [ho] at hwindows hinUse
  refine ⟨(State.scheduled_iff _).2 ⟨hagreed, ?_⟩, ht.kept.trans hkept, hdue.trans ht.decisionDue, fun k => ?_, ?_, ?_, ?_,
    fun k hk => (hwindows k hk).trans (ht.windows k hk), hdelivery.trans ht.delivery, ?_, ?_, ?_, ?_, fun k => ?_,
    fun hsound => ?_, fun k => ?_⟩
  · rw [hengine]
    split
    · exact t.engine.released_shaped
    · exact hshape
  · rw [hjobs, ht.job]
    by_cases hk : k = j <;> simp [hk]
  · rw [hqueue, hnodup.erase_eq_filter, ht.queue, List.filter_filter]
    refine List.filter_congr fun k _ => ?_
    by_cases hk : k = j <;> simp [hk]
  · rw [hengine, ht.engine]
    by_cases hst : (s.job j).state = .settling
    · have hnone : ¬ ∃ k ∈ done, s.engine.settlingJob = some k := by
        rintro ⟨k, hk, hsome⟩
        rw [hsettling.1 hst] at hsome
        exact hj (Option.some.inj hsome ▸ hk)
      rw [if_pos hst, if_neg hnone, if_pos ⟨j, by simp, hsettling.1 hst⟩]
    · have hnot : s.engine.settlingJob ≠ some j := mt hsettling.2 hst
      rw [if_neg hst]
      refine if_congr ⟨?_, ?_⟩ rfl rfl
      · rintro ⟨k, hk, hsome⟩
        exact ⟨k, List.mem_append_left _ hk, hsome⟩
      · rintro ⟨k, hk, hsome⟩
        rcases List.mem_append.1 hk with hk | hk
        · exact ⟨k, hk, hsome⟩
        · rw [List.mem_singleton.1 hk] at hsome
          exact absurd hsome hnot
  · rw [hwaiting, ht.waiting]
    split
    · rename_i hf
      rw [List.filter_filter]
      refine List.filter_congr fun p _ => ?_
      by_cases hp : p.job = j <;> simp [hp, hf]
    · rename_i hf
      refine List.filter_congr fun p _ => ?_
      by_cases hp : p.job = j <;> simp [hp, hf]
  · rw [hframes, ht.frames, freedFrames_append]
    simp
  · rw [hpool, ht.pool]
    simp
  · rw [hinUse, ht.inUse]
    simp [Nat.sub_sub]
  · rw [hexc]
    split
    · rw [State.excWithout, Excitation.recompute_standing]
      exact ht.standing
    · exact ht.standing
  · rw [hexc]
    split
    · rename_i hh
      rw [State.excWithout, Excitation.recompute_transient, Table.at_put, ht.transient]
      by_cases hk : k = j <;> simp [hk, hh]
    · rename_i hh
      rw [ht.transient]
      by_cases hk : k = j <;> simp [hk, hh]
  · rw [hexc]
    split
    · have := (ht.fallen hsound).recompute hsound (standing := t.exc.standing) (transient := t.exc.transient.put j none)
        (fun _ => le_rfl) fun k => by
          rw [Table.at_put]
          split <;> simp [Level.rank]
      rw [State.excWithout, ht.kept.timeBase]
      exact this
    · exact ht.fallen hsound
  · rw [hseqs]
    split
    · rename_i hf
      rw [Table.at_put]
      split
      · subst k
        have hnamed : (t.job j).state ≠ .free := by
          simp only [Job.freedByTeardown, Bool.and_eq_true, bne_iff_ne] at hf
          rw [hjob]
          exact hf.1.1
        have hdefined := (t.scheduled_iff.1 ht.scheduled).1.seqs.defined hnamed
        rw [State.seqOf, hjob] at hdefined ⊢
        exact (ht.seqs _).dropped hdefined
      · exact ht.seqs k
    · exact ht.seqs k

end Torn

/-- What holds at every stage of a teardown holds of the whole. -/
theorem State.Torn.foldl {s : State} {h : HostId} (hs : s.Scheduled) {P : List JobId → State → Prop}
    (hP : ∀ (done : List JobId) (t : State) (j : JobId), s.Torn h done t → j ∉ done → (s.job j).owner = h → P done t →
      P (done ++ [j]) (t.tearJob j)) (l : List JobId) {done : List JobId} {t : State} (ht : s.Torn h done t)
    (hp : P done t) (hnodup : (done ++ l).Nodup) (ho : ∀ j ∈ l, (s.job j).owner = h) :
    s.Torn h (done ++ l) (l.foldl State.tearJob t) ∧ P (done ++ l) (l.foldl State.tearJob t) := by
  induction l generalizing done t with
  | nil => simpa using ⟨ht, hp⟩
  | cons j l ih =>
    have hj : j ∉ done := fun hmem =>
      (List.nodup_append.1 hnodup).2.2 j hmem j List.mem_cons_self rfl
    have hown := ho j List.mem_cons_self
    have := ih (done := done ++ [j]) (ht.tearJob hs hj hown) (hP done t j ht hj hown hp) (by simpa using hnodup)
      fun k hk => ho k (List.mem_cons_of_mem _ hk)
    simpa using this

/-! ## The groups that a host's jobs leave (R139, R141) -/

/-- The jobs of a list that give up their groups. -/
def State.Leaves (s : State) (done : List JobId) (k : JobId) : Prop := k ∈ done ∧ (s.job k).holdsFrameAtRest = true

/-- A hold that waited for jobs of a list alone, apart from its host's own. -/
def State.GrantedBy (s : State) (done : List JobId) (g : GroupId) : Prop :=
  (s.groups.at g).state = .pending ∧ (∃ k, s.Leaves done k ∧ (s.groups.at g).occupants.at k = true) ∧
    ∀ k, (s.groups.at g).occupants.at k = true → s.Leaves done k ∨ (s.job k).owner = (s.groups.at g).host

/-- Groups and events when a list of jobs has left. -/
structure State.TornHolds (s : State) (done : List JobId) (t : State) : Prop where
  occupants : ∀ g k, (t.groups.at g).occupants.at k = true ↔
    (s.groups.at g).occupants.at k = true ∧ ¬ s.Leaves done k
  granted : ∀ g, s.GrantedBy done g → t.groups.at g = { s.groups.at g with
    state := .held, expiry := s.leaseEnd g, occupants := (t.groups.at g).occupants }
  ungranted : ∀ g, ¬ s.GrantedBy done g → t.groups.at g = { s.groups.at g with occupants := (t.groups.at g).occupants }
  events : ∀ k, ∃ order : List GroupId, order.Nodup ∧ (∀ g, g ∈ order ↔ s.GrantedBy done g ∧ (s.groups.at g).host = k) ∧
    t.events.get k = order.foldl (fun q g => q.push (s.grantRecord g)) (s.events.get k)

theorem State.not_leaves_nil (s : State) (k : JobId) : ¬ s.Leaves [] k := fun h => by cases h.1

theorem State.TornHolds.start (s : State) {t : State} (hg : t.groups = s.groups) (he : t.events = s.events) :
    s.TornHolds [] t := by
  have hnone (g : GroupId) : ¬ s.GrantedBy [] g := fun ⟨_, ⟨k, hk, _⟩, _⟩ => s.not_leaves_nil k hk
  refine ⟨fun g k => ?_, fun g h => absurd h (hnone g), fun g _ => by rw [hg], fun k => ⟨[], List.nodup_nil, fun g => ?_, by
    rw [he]; rfl⟩⟩
  · rw [hg]
    simp [s.not_leaves_nil]
  · simp [hnone]

section TornHolds
variable {s t : State} {h : HostId} {done : List JobId} {j : JobId}

theorem State.leaves_append (s : State) (done : List JobId) (j k : JobId) :
    s.Leaves (done ++ [j]) k ↔ s.Leaves done k ∨ k = j ∧ (s.job j).holdsFrameAtRest = true := by
  unfold State.Leaves
  rw [List.mem_append, List.mem_singleton]
  constructor
  · rintro ⟨hk | rfl, hh⟩
    · exact .inl ⟨hk, hh⟩
    · exact .inr ⟨rfl, hh⟩
  · rintro (⟨hk, hh⟩ | ⟨rfl, hh⟩)
    · exact ⟨.inl hk, hh⟩
    · exact ⟨.inr rfl, hh⟩

theorem State.TornHolds.fields (ht : s.TornHolds done t) (g : GroupId) :
    (t.groups.at g).host = (s.groups.at g).host ∧ (t.groups.at g).lease = (s.groups.at g).lease ∧
    ((t.groups.at g).state = .pending ↔ (s.groups.at g).state = .pending ∧ ¬ s.GrantedBy done g) := by
  by_cases hg : s.GrantedBy done g
  · rw [ht.granted g hg]
    simp [hg]
  · rw [ht.ungranted g hg]
    simp [hg]

/-- The steps of a job that has not been torn down stay. -/
theorem State.Torn.steps (ht : s.Torn h done t) (hj : j ∉ done) (hn : (s.job j).state ≠ .free) :
    (t.seqOf j).steps = (s.seqOf j).steps := by
  have hjob : t.job j = s.job j := by rw [ht.job, if_neg hj]
  have hdefined := (t.scheduled_iff.1 ht.scheduled).1.seqs.defined (j := j) (by rw [hjob]; exact hn)
  rw [State.seqOf, hjob] at hdefined ⊢
  rcases ht.seqs (s.job j).seq with ⟨n, heq⟩ | ⟨_, _, heq⟩
  · rw [heq]
    rfl
  · rw [heq] at hdefined
    cases hdefined

/-- A job that stands in an occupant set and is not among those that leave keeps its owner. -/
theorem State.Torn.owner (hh : s.HoldingsSound) (ht : s.Torn h done t) {g : GroupId} {k : JobId}
    (hk : (s.groups.at g).occupants.at k = true) (hl : ¬ s.Leaves done k) : (t.job k).owner = (s.job k).owner := by
  rw [ht.job]
  split
  · rename_i hmem
    have hdisp : (s.job k).state.dispatched = true := by
      have := (hh k).2.2 g
      rw [hk] at this
      simp only [Bool.true_eq, Bool.and_eq_true] at this
      exact this.1.2
    have hrest : (s.job k).holdsFrameAtRest = false := by
      rw [Bool.eq_false_iff]
      exact fun hrest => hl ⟨hmem, hrest⟩
    have hstep : (s.job k).state = .running ∨ (s.job k).state = .stopping := by
      cases hst : (s.job k).state <;> simp [hst, JobState.dispatched, Job.holdsFrameAtRest] at hdisp hrest ⊢
    rw [Job.torn, if_pos hstep]
  · rfl

/-- A job at rest with its frame stands in the occupant sets of the groups it touches (Table 1-2, R139). -/
theorem State.HoldingsSound.occupant_iff (hh : s.HoldingsSound) (hr : (s.job j).holdsFrameAtRest = true) (g : GroupId) :
    (s.groups.at g).occupants.at j = true ↔ (s.job j).cls = .routine ∧ (s.seqOf j).touches g = true := by
  have hdisp : (s.job j).state.dispatched = true := by
    simp only [Job.holdsFrameAtRest, Bool.or_eq_true, beq_iff_eq] at hr
    rcases hr with hr | hr <;> simp [hr, JobState.dispatched]
  rw [(hh j).2.2 g, hdisp]
  simp

/-- The hold that the next job's leaving grants, in terms of the state before the teardown. -/
theorem State.TornHolds.waitedFor_iff (hh : s.HoldingsSound) (ht : s.Torn h done t) (hg : s.TornHolds done t)
    (hj : j ∉ done) (hr : (s.job j).holdsFrameAtRest = true) (g : GroupId) :
    t.WaitedFor j g ↔ (s.groups.at g).occupants.at j = true ∧ (s.groups.at g).state = .pending ∧ ¬ s.GrantedBy done g ∧
      ∀ k, k ≠ j → (s.groups.at g).occupants.at k = true → ¬ s.Leaves done k →
        (s.job k).owner = (s.groups.at g).host := by
  have hjob : t.job j = s.job j := by rw [ht.job, if_neg hj]
  have hnamed : (s.job j).state ≠ .free := fun hf => by simp [Job.holdsFrameAtRest, hf] at hr
  have htouch : (t.seqOf j).touches g = (s.seqOf j).touches g := by rw [Seq.touches, ht.steps hj hnamed]; rfl
  obtain ⟨hhost, _, hpending⟩ := hg.fields g
  have hnot : ¬ s.Leaves done j := fun hl => hj hl.1
  rw [State.WaitedFor, hjob, htouch, hpending, hhost, hg.occupants, hh.occupant_iff hr]
  constructor
  · rintro ⟨hc, htg, _, ⟨hp, hng⟩, hall⟩
    refine ⟨⟨hc, htg⟩, hp, hng, fun k hk hoc hl => ?_⟩
    rw [← ht.owner hh hoc hl]
    exact hall k hk ((hg.occupants g k).2 ⟨hoc, hl⟩)
  · rintro ⟨⟨hc, htg⟩, hp, hng, hall⟩
    refine ⟨hc, htg, ⟨⟨hc, htg⟩, hnot⟩, ⟨hp, hng⟩, fun k hk hoc => ?_⟩
    obtain ⟨hoc, hl⟩ := (hg.occupants g k).1 hoc
    rw [ht.owner hh hoc hl]
    exact hall k hk hoc hl

/-- The holds granted with one job more. -/
theorem State.TornHolds.grantedBy_append_iff (hh : s.HoldingsSound) (ht : s.Torn h done t) (hg : s.TornHolds done t)
    (hj : j ∉ done) (hr : (s.job j).holdsFrameAtRest = true) (g : GroupId) :
    s.GrantedBy (done ++ [j]) g ↔ s.GrantedBy done g ∨ t.WaitedFor j g := by
  rw [hg.waitedFor_iff hh ht hj hr]
  constructor
  · rintro ⟨hp, ⟨k, hk, hoc⟩, hall⟩
    by_cases hgr : s.GrantedBy done g
    · exact .inl hgr
    · have hleft (i : JobId) (hi : i ≠ j) : s.Leaves (done ++ [j]) i ↔ s.Leaves done i := by
        simp [s.leaves_append, hi]
      by_cases hocj : (s.groups.at g).occupants.at j = true
      · refine .inr ⟨hocj, hp, hgr, fun i hi hoci hl => ?_⟩
        exact (hall i hoci).resolve_left (mt (hleft i hi).1 hl)
      · have hne (i : JobId) (hoci : (s.groups.at g).occupants.at i = true) : i ≠ j := fun he => hocj (he ▸ hoci)
        exact absurd ⟨hp, ⟨k, (hleft k (hne k hoc)).1 hk, hoc⟩, fun i hoci =>
          (hall i hoci).imp_left (hleft i (hne i hoci)).1⟩ hgr
  · rintro (⟨hp, ⟨k, hk, hoc⟩, hall⟩ | ⟨hocj, hp, _, hall⟩)
    · exact ⟨hp, ⟨k, (s.leaves_append ..).2 (.inl hk), hoc⟩, fun i hoci =>
        (hall i hoci).imp_left fun hl => (s.leaves_append ..).2 (.inl hl)⟩
    · refine ⟨hp, ⟨j, (s.leaves_append ..).2 (.inr ⟨rfl, hr⟩), hocj⟩, fun i hoci => ?_⟩
      by_cases hi : i = j
      · exact .inl ((s.leaves_append ..).2 (.inr ⟨hi, hr⟩))
      · by_cases hl : s.Leaves done i
        · exact .inl ((s.leaves_append ..).2 (.inl hl))
        · exact .inr (hall i hi hoci hl)

theorem State.groupWithout_eq (s : State) (j : JobId) (g : GroupId) :
    s.groupWithout j g = { s.groups.at g with occupants := (s.groupWithout j g).occupants } := by
  unfold State.groupWithout
  split <;> rfl

theorem State.groupWithout_occupant_iff (s : State) (j : JobId) (g : GroupId) (k : JobId) :
    (s.groupWithout j g).occupants.at k = true ↔ (s.groups.at g).occupants.at k = true ∧
      ¬ (k = j ∧ (s.job j).cls = .routine ∧ (s.seqOf j).touches g = true) := by
  unfold State.groupWithout
  split
  · rename_i hc
    rw [Table.at_put]
    split <;> simp [*]
  · rename_i hc
    simp [hc]

theorem State.TornHolds.tearJob (hh : s.HoldingsSound) (ht : s.Torn h done t)
    (hg : s.TornHolds done t) (hj : j ∉ done) : s.TornHolds (done ++ [j]) (t.tearJob j) := by
  have hjob : t.job j = s.job j := by rw [ht.job, if_neg hj]
  have he := ht.scheduled.tearsJob j
  cases hr : (s.job j).holdsFrameAtRest with
  | false =>
    have hleft (k : JobId) : s.Leaves (done ++ [j]) k ↔ s.Leaves done k := by simp [s.leaves_append, hr]
    have hgranted (g : GroupId) : s.GrantedBy (done ++ [j]) g ↔ s.GrantedBy done g := by
      simp only [State.GrantedBy, hleft]
    obtain ⟨hgroups, hevents⟩ := he.unvacated (by rw [hjob]; exact hr)
    obtain ⟨hocc, hgr, hun, hev⟩ := hg
    constructor
    · simpa only [hgroups, hleft] using hocc
    · simpa only [hgroups, hgranted] using hgr
    · simpa only [hgroups, hgranted] using hun
    · simpa only [hevents, hgranted] using hev
  | true =>
    have hv := he.vacated (by rw [hjob]; exact hr)
    have happend (g : GroupId) := hg.grantedBy_append_iff hh ht hj hr g
    have hwait (g : GroupId) := hg.waitedFor_iff hh ht hj hr g
    have hnamed : (s.job j).state ≠ .free := fun hf => by simp [Job.holdsFrameAtRest, hf] at hr
    have hend (g : GroupId) : t.leaseEnd g = s.leaseEnd g := by
      rw [State.leaseEnd, State.leaseEnd, ht.kept.timeBase, (hg.fields g).2.1]
    have hrecord (g : GroupId) : t.grantRecord g = s.grantRecord g := by
      rw [State.grantRecord, State.grantRecord, ht.kept.timeBase, hend, (hg.fields g).2.1]
    have hnew (g : GroupId) (hw : t.WaitedFor j g) : ¬ s.GrantedBy done g := ((hwait g).1 hw).2.2.1
    have hocc (g : GroupId) : ((t.tearJob j).groups.at g).occupants = (t.groupWithout j g).occupants := by
      by_cases hw : t.WaitedFor j g
      · rw [hv.waited g hw]
      · rw [hv.unwaited g hw]
    refine ⟨fun g k => ?_, fun g hgr => ?_, fun g hgr => ?_, fun k => ?_⟩
    · rw [hocc, t.groupWithout_occupant_iff, hg.occupants, s.leaves_append, hjob]
      have htouch : (t.seqOf j).touches g = (s.seqOf j).touches g := by rw [Seq.touches, ht.steps hj hnamed]; rfl
      rw [htouch]
      have hj' := hh.occupant_iff hr g
      by_cases hk : k = j
      · subst hk
        simp only [hr, hj']
        tauto
      · simp [hk]
    · rcases (happend g).1 hgr with hold | hw
      · rw [hv.unwaited g fun hw => hnew g hw hold, t.groupWithout_eq, hg.granted g hold]
      · rw [hv.waited g hw, t.groupWithout_eq, hg.ungranted g (hnew g hw), hend]
    · obtain ⟨hold, hw⟩ := not_or.1 (mt (happend g).2 hgr)
      rw [hv.unwaited g hw, t.groupWithout_eq, hg.ungranted g hold]
    · obtain ⟨before, hbefore, hmem, htold⟩ := hg.events k
      obtain ⟨order, horder, hmem', htold'⟩ := hv.events k
      refine ⟨before ++ order, ?_, fun g => ?_, ?_⟩
      · refine List.nodup_append.2 ⟨hbefore, horder, fun g hb g' ho => ?_⟩
        rintro rfl
        exact hnew g ((hmem' g).1 ho).1 ((hmem g).1 hb).1
      · rw [List.mem_append, hmem, hmem', happend, (hg.fields g).1]
        exact or_and_right.symm
      · simp only [hrecord] at htold'
        rw [htold', htold, List.foldl_append]

end TornHolds

/-- The hosts of the groups, and which groups are FREE, as jobs go. -/
def State.GroupsHeld (s t : State) : Prop :=
  ∀ g, (t.groups.at g).host = (s.groups.at g).host ∧ ((t.groups.at g).state = .free ↔ (s.groups.at g).state = .free)

theorem State.Torn.groupsHeld_tearJob {s t : State} {h : HostId} {done : List JobId} (ht : s.Torn h done t)
    (hg : s.GroupsHeld t) (j : JobId) : s.GroupsHeld (t.tearJob j) := by
  have he := ht.scheduled.tearsJob j
  intro g
  obtain ⟨hstate, hhost, _, _⟩ := t.groupWithout_fields j g
  obtain ⟨hgh, hgs⟩ := hg g
  cases hr : (t.job j).holdsFrameAtRest with
  | false =>
    rw [(he.unvacated hr).1]
    exact ⟨hgh, hgs⟩
  | true =>
    by_cases hw : t.WaitedFor j g
    · obtain ⟨_, _, _, hp, _⟩ := id hw
      rw [hp] at hgs
      rw [(he.vacated hr).waited g hw]
      exact ⟨hhost.trans hgh, by simpa using hgs⟩
    · rw [(he.vacated hr).unwaited g hw, hstate]
      exact ⟨hhost.trans hgh, hgs⟩

/-- No grant has happened, and jobs have only left groups. -/
structure State.NoGrant (s t : State) : Prop where
  events : t.events = s.events
  state : ∀ g, (t.groups.at g).state = (s.groups.at g).state
  occupants : ∀ g k, (t.groups.at g).occupants.at k = true → (s.groups.at g).occupants.at k = true

theorem State.Torn.noGrant_tearJob {s t : State} {h : HostId} {done : List JobId} (ht : s.Torn h done t)
    (hg : s.NoGrant t) {j : JobId} (hn : s.NoHoldWaitsFor j) : s.NoGrant (t.tearJob j) := by
  have he := ht.scheduled.tearsJob j
  cases hr : (t.job j).holdsFrameAtRest with
  | false =>
    obtain ⟨hgroups, hevents⟩ := he.unvacated hr
    exact ⟨hevents.trans hg.events, by rw [hgroups]; exact hg.state, by rw [hgroups]; exact hg.occupants⟩
  | true =>
    have hv := he.vacated hr
    have hw (g : GroupId) : ¬ t.WaitedFor j g := fun ⟨_, _, ho, hp, _⟩ =>
      hn g (hg.occupants g j ho) ((hg.state g).symm.trans hp)
    refine ⟨PerHost.ext_get fun k => ?_, fun g => ?_, fun g k hk => ?_⟩
    · obtain ⟨order, _, hmem, htold⟩ := hv.events k
      have hnil : order = [] := List.eq_nil_iff_forall_not_mem.2 fun g hgm => hw g ((hmem g).1 hgm).1
      rw [htold, hnil, hg.events]
      rfl
    · rw [hv.unwaited g (hw g), (t.groupWithout_fields j g).1]
      exact hg.state g
    · rw [hv.unwaited g (hw g)] at hk
      exact hg.occupants g k ((t.groupWithout_occupant_iff j g k).1 hk).1

/-! ## The Job Controller's part as a whole -/

/-- The jobs of a host that give a frame back at teardown, in the order the model chooses (log 12). -/
def State.holders (s : State) (h : HostId) : List JobId :=
  s.openOrder (fun j => j.val) ((allJobs.filter fun j => (s.job j).owner == h).filter fun j => (s.job j).holdsFrameAtRest)

/-- The other jobs of a host. -/
def State.others (s : State) (h : HostId) : List JobId :=
  (allJobs.filter fun j => (s.job j).owner == h).filter fun j => !(s.job j).holdsFrameAtRest

theorem allJobs_nodup : allJobs.Nodup := by
  rw [allJobs_eq_finRange]
  exact List.nodup_finRange 24

theorem State.holders_perm (s : State) (h : HostId) : (s.holders h).Perm
    ((allJobs.filter fun j => (s.job j).owner == h).filter fun j => (s.job j).holdsFrameAtRest) := sortRanked_perm ..

theorem State.mem_holders {s : State} {h : HostId} {j : JobId} :
    j ∈ s.holders h ↔ (s.job j).owner = h ∧ (s.job j).holdsFrameAtRest = true := by
  rw [(s.holders_perm h).mem_iff]
  simp [mem_allJobs, and_comm]

theorem State.mem_others {s : State} {h : HostId} {j : JobId} :
    j ∈ s.others h ↔ (s.job j).owner = h ∧ (s.job j).holdsFrameAtRest = false := by
  simp [State.others, mem_allJobs, and_comm]

theorem State.holders_nodup (s : State) (h : HostId) : (s.holders h).Nodup :=
  (s.holders_perm h).nodup_iff.2 ((allJobs_nodup.filter _).filter _)

theorem State.torn_nodup (s : State) (h : HostId) : (s.holders h ++ s.others h).Nodup := by
  refine List.nodup_append.2 ⟨s.holders_nodup h, (allJobs_nodup.filter _).filter _, fun j hj k hk => ?_⟩
  rintro rfl
  have := (State.mem_holders.1 hj).2
  rw [(State.mem_others.1 hk).2] at this
  cases this

theorem State.mem_torn {s : State} {h : HostId} {j : JobId} :
    j ∈ s.holders h ++ s.others h ↔ (s.job j).owner = h := by
  rw [List.mem_append, State.mem_holders, State.mem_others, ← and_or_left]
  cases (s.job j).holdsFrameAtRest <;> simp

/-- What holds at every stage of the host's teardown holds of its jobs' teardown. -/
theorem State.tearJobs_induction {s : State} (hs : s.Scheduled) (h : HostId) {P : List JobId → State → Prop}
    (hstart : ∀ t : State, t.groups = s.groups → t.events = s.events → P [] t)
    (hP : ∀ (done : List JobId) (t : State) (j : JobId), s.Torn h done t → j ∉ done → (s.job j).owner = h → P done t →
      P (done ++ [j]) (t.tearJob j)) :
    s.Torn h (s.holders h ++ s.others h) (s.tearJobs h) ∧ P (s.holders h ++ s.others h) (s.tearJobs h) := by
  have hdrawn {α : Type} (l : List α) : (s.drawnFor l).groups = s.groups ∧ (s.drawnFor l).events = s.events := by
    unfold State.drawnFor
    split <;> exact ⟨rfl, rfl⟩
  exact State.Torn.foldl hs hP (s.holders h ++ s.others h) (State.Torn.start hs h _)
    (hstart _ (hdrawn _).1 (hdrawn _).2) (s.torn_nodup h) fun j hj => State.mem_torn.1 hj

theorem State.tearJobs_torn {s : State} (hs : s.Scheduled) (h : HostId) :
    s.Torn h (s.holders h ++ s.others h) (s.tearJobs h) :=
  (State.tearJobs_induction hs h (P := fun _ _ => True) (fun _ _ _ => trivial) fun _ _ _ _ _ _ _ => trivial).1

theorem State.tearJobs_groupsHeld {s : State} (hs : s.Scheduled) (h : HostId) : s.GroupsHeld (s.tearJobs h) :=
  (State.tearJobs_induction hs h (P := fun _ t => s.GroupsHeld t) (fun t hg _ => by
    intro g
    rw [hg]
    exact ⟨rfl, .rfl⟩) fun _ _ j ht _ _ hp => ht.groupsHeld_tearJob hp j).2

theorem State.tearJobs_noGrant {s : State} (hs : s.Scheduled) (h : HostId)
    (hn : ∀ j : JobId, (s.job j).owner = h → s.NoHoldWaitsFor j) : s.NoGrant (s.tearJobs h) :=
  (State.tearJobs_induction hs h (P := fun _ t => s.NoGrant t) (fun t hg he => ⟨he, by rw [hg]; exact fun _ => rfl, by
    rw [hg]; exact fun _ _ => id⟩) fun _ _ j ht _ ho hp => ht.noGrant_tearJob hp (hn j ho)).2

theorem State.tearJobs_holds {s : State} (hs : s.Scheduled) (hh : s.HoldingsSound) (h : HostId) :
    s.TornHolds (s.holders h ++ s.others h) (s.tearJobs h) :=
  (State.tearJobs_induction hs h (P := fun done t => s.TornHolds done t) (fun _ hg he => .start s hg he)
    fun _ _ _ ht hj _ hp => hp.tearJob hh ht hj).2

end Sys2Proof.Machine

namespace Sys2Proof.Machine

/-! ## The other blocks' parts of HOST_RESET (Section 11.6) -/

/-- A sequence record after its owner's teardown (R105). -/
def Seq.tornFor (q : Seq) (h : HostId) : Seq :=
  if q.defined = true ∧ q.owner = some h then if q.refCount = 0 then Seq.free else { q with owner := none } else q

theorem State.tearSeq_eq (h : HostId) (s : State) (k : SeqId) :
    State.tearSeq h s k =
      { s with seqs := s.seqs.put k ((s.seqs.at k).tornFor h), freeSteps := (State.tearSeq h s k).freeSteps } := by
  unfold State.tearSeq Seq.tornFor
  dsimp only
  split
  · split <;> rfl
  · simp

theorem Seq.tornFor_tornFor (q : Seq) (h : HostId) : (q.tornFor h).tornFor h = q.tornFor h := by
  unfold Seq.tornFor
  split
  · split <;> simp [Seq.free]
  · rfl

theorem State.foldl_tearSeq (h : HostId) (l : List SeqId) (s : State) :
    l.foldl (State.tearSeq h) s = { s with
      seqs := (l.foldl (State.tearSeq h) s).seqs, freeSteps := (l.foldl (State.tearSeq h) s).freeSteps } ∧
    ∀ k, (l.foldl (State.tearSeq h) s).seqs.at k = if k ∈ l then (s.seqs.at k).tornFor h else s.seqs.at k := by
  induction l generalizing s with
  | nil => exact ⟨rfl, fun k => by simp⟩
  | cons x l ih =>
    obtain ⟨heq, hat⟩ := ih (State.tearSeq h s x)
    have hx := State.tearSeq_eq h s x
    refine ⟨?_, fun k => ?_⟩
    · rw [List.foldl_cons, heq, hx]
    · rw [List.foldl_cons, hat, hx]
      simp only [Table.at_put, List.mem_cons]
      by_cases hk : k = x
      · subst hk
        simp [Seq.tornFor_tornFor]
      · simp [hk]

/-- A group record after its host's teardown (R149). -/
def Group.tornFor (r : Group) (h : HostId) : Group :=
  if r.state ≠ .free ∧ r.host = h then { r with state := .free, host := .h0, lease := 0, expiry := 0 } else r

theorem State.tearGroup_eq (h : HostId) (s : State) (g : GroupId) :
    State.tearGroup h s g = { s with groups := s.groups.put g ((s.groups.at g).tornFor h) } := by
  unfold State.tearGroup Group.tornFor
  split
  · rfl
  · simp

theorem Group.tornFor_tornFor (r : Group) (h : HostId) : (r.tornFor h).tornFor h = r.tornFor h := by
  unfold Group.tornFor
  split
  · simp
  · rfl

theorem State.foldl_tearGroup (h : HostId) (l : List GroupId) (s : State) :
    l.foldl (State.tearGroup h) s = { s with groups := (l.foldl (State.tearGroup h) s).groups } ∧
    ∀ g, (l.foldl (State.tearGroup h) s).groups.at g = if g ∈ l then (s.groups.at g).tornFor h else s.groups.at g := by
  induction l generalizing s with
  | nil => exact ⟨rfl, fun g => by simp⟩
  | cons x l ih =>
    obtain ⟨heq, hat⟩ := ih (State.tearGroup h s x)
    have hx := State.tearGroup_eq h s x
    refine ⟨?_, fun g => ?_⟩
    · rw [List.foldl_cons, heq, hx]
    · rw [List.foldl_cons, hat, hx]
      simp only [Table.at_put, List.mem_cons]
      by_cases hg : g = x
      · subst hg
        simp [Group.tornFor_tornFor]
      · simp [hg]

/-- The engine after a host's teardown (R125, R168). -/
def Engine.tornFor (e : Engine) (h : HostId) : Engine :=
  { e with
    requests := e.requests.put h none, effective := effectiveInterval (e.requests.put h none)
    requesters := e.requesters.put h false, served := e.served.put h false
    tornDown := if e.startingUp then e.tornDown.put h true else e.tornDown }

/-- The excitation after a host's teardown, its jobs' claims removed (R136). -/
def Excitation.withoutStanding (e : Excitation) (h : HostId) (now : Time) : Excitation :=
  Excitation.recompute { e with standing := e.standing.put h .off } now

/-- The parts of the blocks after the Job Controller's. -/
def State.afterJobs (s : State) (h : HostId) : State :=
  (allGroups.foldl (State.tearGroup h) (State.flushDelivery
    (((allSeqs.foldl (State.tearSeq h) s).tearEngine h).setStanding h .off) h)).tearRecords h

theorem State.teardown_eq (s : State) (h : HostId) : s.teardown h = (s.tearJobs h).afterJobs h := rfl

/-- What the blocks after the Job Controller do. -/
structure State.TornRest (s : State) (h : HostId) (t : State) : Prop where
  kept : s.Kept t
  jobs : t.jobs = s.jobs
  queue : t.queue = s.queue
  waiting : t.waiting = s.waiting
  decisionDue : t.decisionDue = s.decisionDue
  engine : t.engine = s.engine.tornFor h
  exc : t.exc = s.exc.withoutStanding h s.timeBase
  frames : t.frames = freedFrames s.frames (s.delivery.get h)
  pool : t.pool = s.pool ++ s.delivery.get h
  inUse : t.inUse = s.inUse.put h (s.inUse.get h - (s.delivery.get h).length)
  delivery : t.delivery = s.delivery.put h []
  windows : t.windows = s.windows.put h (Vector.replicate 4 Window.disabled)
  events : t.events = s.events.put h EventQueue.reset
  group : ∀ g, t.groups.at g = (s.groups.at g).tornFor h
  seq : ∀ k, t.seqs.at k = (s.seqs.at k).tornFor h
  sequences : t.seqs = (allSeqs.foldl (State.tearSeq h) s).seqs ∧
    t.freeSteps = (allSeqs.foldl (State.tearSeq h) s).freeSteps

theorem State.afterJobs_tornRest (s : State) (h : HostId) : s.TornRest h (s.afterJobs h) := by
  obtain ⟨hseqs, hseq⟩ := State.foldl_tearSeq h allSeqs s
  have hmem (k : SeqId) : k ∈ allSeqs := by simp [allSeqs_eq_finRange]
  generalize hq : allSeqs.foldl (State.tearSeq h) s = q at hseqs hseq
  obtain ⟨seqs, hs⟩ : ∃ seqs, q.seqs = seqs := ⟨_, rfl⟩
  obtain ⟨freeSteps, hf⟩ : ∃ freeSteps, q.freeSteps = freeSteps := ⟨_, rfl⟩
  rw [hs, hf] at hseqs
  have hstore : State.flushDelivery ((q.tearEngine h).setStanding h .off) h =
      { s.withReturned h (s.delivery.get h) with
        seqs := seqs, freeSteps := freeSteps, engine := s.engine.tornFor h
        exc := s.exc.withoutStanding h s.timeBase, delivery := s.delivery.put h [] } := by
    rw [State.flushDelivery_eq, hseqs]
    rfl
  unfold State.afterJobs
  rw [hq, hstore]
  obtain ⟨hgroups, hgroup⟩ := State.foldl_tearGroup h allGroups { s.withReturned h (s.delivery.get h) with
    seqs := seqs, freeSteps := freeSteps, engine := s.engine.tornFor h
    exc := s.exc.withoutStanding h s.timeBase, delivery := s.delivery.put h [] }
  generalize allGroups.foldl (State.tearGroup h) _ = u at hgroups hgroup
  obtain ⟨groups, hg⟩ : ∃ groups, u.groups = groups := ⟨_, rfl⟩
  rw [hg] at hgroups hgroup
  rw [hgroups]
  refine ⟨⟨rfl, rfl, rfl, rfl, rfl, rfl, rfl⟩, rfl, rfl, rfl, rfl, rfl, rfl, rfl, rfl, rfl, rfl, rfl, rfl, fun g => ?_,
    fun k => ?_, ?_⟩
  · exact (hgroup g).trans (if_pos (mem_allGroups g))
  · exact (by rw [← hs] : seqs.at k = q.seqs.at k).trans ((hseq k).trans (if_pos (hmem k)))
  · rw [hq]
    exact ⟨hs.symm, hf.symm⟩

theorem State.teardown_tornRest (s : State) (h : HostId) : (s.tearJobs h).TornRest h (s.teardown h) := by
  rw [State.teardown_eq]
  exact State.afterJobs_tornRest _ h

/-! ## The state that HOST_RESET leaves, part by part

`u` is the state after the Job Controller's part and `t` the one after the other blocks' parts. -/

theorem Job.freedByTeardown_eq_false_iff (r : Job) :
    r.freedByTeardown = false ↔ r.state = .free ∨ r.state = .running ∨ r.state = .stopping := by
  unfold Job.freedByTeardown
  cases r.state <;> decide

theorem Job.holdsFrameAtRest_iff (r : Job) : r.holdsFrameAtRest = true ↔ r.state = .settling ∨ r.state = .preempted := by
  simp [Job.holdsFrameAtRest]

section Caller
variable {s u t : State} {h : HostId} (hu : s.Torn h (s.holders h ++ s.others h) u) (ht : u.TornRest h t)
include hu ht

/-- The teardown leaves a sound Sequence Store (R93, R98, R103, R105). -/
theorem State.Torn.sequencesSound : t.SequencesSound := by
  obtain ⟨hseqs, hfree⟩ := ht.sequences
  have hjobs : u.Agreed := ((State.scheduled_iff _).1 hu.scheduled).1
  have hfold (l : List SeqId) (v : State) (hv : v.Agreed) : (l.foldl (State.tearSeq h) v).Agreed := by
    induction l generalizing v with
    | nil => exact hv
    | cons k l ih => exact ih _ (hv.tearSeq h k)
  refine (hfold allSeqs _ hjobs).seqs.congr hseqs hfree fun j => ?_
  have hjob : (allSeqs.foldl (State.tearSeq h) u).job j = t.job j := by
    rw [(State.foldl_tearSeq h allSeqs u).1, State.job, State.job, ht.jobs]
  rw [hjob]
  exact ⟨.rfl, rfl⟩

theorem State.Torn.job_after (j : JobId) : t.job j = if (s.job j).owner = h then (s.job j).torn else s.job j := by
  have := hu.job j
  simp only [State.mem_torn] at this
  rw [State.job, ht.jobs]
  exact this

theorem State.Torn.queue_after : t.queue = s.queue.filter fun j => decide ((s.job j).owner ≠ h) := by
  rw [ht.queue, hu.queue]
  exact List.filter_congr fun j _ => decide_eq_decide.2 (not_congr State.mem_torn)

theorem State.Torn.waiting_after : t.waiting = s.waiting.filter fun p =>
    decide ((s.job p.job).owner ≠ h ∨ (s.job p.job).state = .free ∨ (s.job p.job).state = .running ∨
      (s.job p.job).state = .stopping) := by
  rw [ht.waiting, hu.waiting]
  refine List.filter_congr fun p _ => ?_
  rw [Bool.eq_iff_iff]
  simp only [Bool.or_eq_true, Bool.not_eq_true', Job.freedByTeardown_eq_false_iff, decide_eq_true_eq, State.mem_torn,
    ne_eq]

theorem State.Torn.store_after :
    ∃ order : List JobId, order.Nodup ∧
      (∀ j : JobId, j ∈ order ↔ (s.job j).owner = h ∧ ((s.job j).state = .settling ∨ (s.job j).state = .preempted)) ∧
      (let back := (order.filterMap fun j => (s.job j).fillFrame) ++ s.delivery.get h
       t.pool = s.pool ++ back ∧ t.inUse = s.inUse.put h (s.inUse.get h - back.length) ∧
       (∀ f : FrameId, t.frames.at f = if f ∈ back then Frame.free else s.frames.at f)) := by
  have hothers : (s.others h).flatMap (fun k => (s.job k).frameAtRest) = [] := by
    rw [List.flatMap_eq_nil_iff]
    intro k hk
    simp [Job.frameAtRest, (State.mem_others.1 hk).2]
  have hholders (l : List JobId) (hl : ∀ k ∈ l, (s.job k).holdsFrameAtRest = true) :
      l.flatMap (fun k => (s.job k).frameAtRest) = l.filterMap fun k => (s.job k).fillFrame := by
    induction l with
    | nil => rfl
    | cons k l ih =>
      rw [List.flatMap_cons, ih fun i hi => hl i (List.mem_cons_of_mem _ hi), Job.frameAtRest,
        if_pos (hl k List.mem_cons_self), List.filterMap_cons]
      cases (s.job k).fillFrame <;> rfl
  have hback : ((s.holders h ++ s.others h).flatMap fun k => (s.job k).frameAtRest) =
      (s.holders h).filterMap fun k => (s.job k).fillFrame := by
    rw [List.flatMap_append, hothers, List.append_nil, hholders _ fun k hk => (State.mem_holders.1 hk).2]
  refine ⟨s.holders h, s.holders_nodup h, fun j => ?_, ?_, ?_, fun f => ?_⟩
  · rw [State.mem_holders, Job.holdsFrameAtRest_iff]
  · rw [ht.pool, hu.pool, hu.delivery, hback, List.append_assoc]
  · rw [ht.inUse, hu.inUse, hu.delivery, hback]
    simp [Nat.sub_sub]
  · rw [ht.frames, hu.frames, hu.delivery, hback, freedFrames_append, freedFrames_at]

theorem State.Torn.transient_after (j : JobId) : t.exc.transient.at j =
    if (s.job j).owner = h ∧ ((s.job j).state = .settling ∨ (s.job j).state = .preempted) then none
    else s.exc.transient.at j := by
  rw [ht.exc, Excitation.withoutStanding, Excitation.recompute_transient, hu.transient]
  simp only [State.mem_torn, Job.holdsFrameAtRest_iff]

theorem State.Torn.standing_after : t.exc.standing = s.exc.standing.put h .off := by
  rw [ht.exc, Excitation.withoutStanding, Excitation.recompute_standing, hu.standing]

theorem State.Torn.fallen_after (he : s.exc.Sound) : s.exc.Fallen t.exc s.timeBase := by
  rw [ht.exc, hu.kept.timeBase]
  refine (hu.fallen he).recompute he (fun k => ?_) fun _ => le_rfl
  rw [PerHost.get_put]
  split <;> simp [Level.rank]

theorem State.Torn.delivery_after : t.delivery = s.delivery.put h [] := by rw [ht.delivery, hu.delivery]

theorem State.Torn.windows_after {k : HostId} (hk : k ≠ h) : t.windows.get k = s.windows.get k := by
  rw [ht.windows, PerHost.get_put_of_ne _ _ hk, hu.windows k hk]

theorem State.Torn.kept_after : s.Kept t := hu.kept.trans ht.kept

omit hu in
theorem State.TornRest.output : t.exc.output = t.exc.claimed := by
  rw [ht.exc, Excitation.withoutStanding, Excitation.recompute_output, Excitation.claimed, Excitation.claimed,
    Excitation.recompute_standing, Excitation.highestTransient, Excitation.highestTransient,
    Excitation.recompute_transient]

omit hu in
theorem State.TornRest.window (w : WindowId) : (t.window h w).enabled = false ∧ (t.window h w).lastZone = .unknown ∧
    (t.window h w).action = .notify := by
  rw [State.window, ht.windows, PerHost.get_put_same, Table.at_replicate]
  exact ⟨rfl, rfl, rfl⟩

/-! ### Sequences (R103, R105) -/

/-- A sequence record while the jobs go, by the jobs that still name it (R103). -/
theorem State.Torn.seq (k : SeqId) :
    u.seqs.at k = { s.seqs.at k with refCount := t.namers k } ∧
      ((s.seqs.at k).defined = true → (s.seqs.at k).owner = none → 0 < t.namers k) ∨
    ((s.seqs.at k).defined = true ∧ (s.seqs.at k).owner = none) ∧ u.seqs.at k = Seq.free ∧ t.namers k = 0 := by
  have hnamers : t.namers k = u.namers k :=
    State.namers_congr (fun j => by rw [State.job, State.job, ht.jobs]; exact ⟨.rfl, rfl⟩) k
  obtain ⟨hcount, hundef, _, horphan⟩ := ((State.scheduled_iff _).1 hu.scheduled).1.seqs.1 k
  rw [hnamers]
  rcases hu.seqs k with ⟨n, heq⟩ | ⟨hd, ho, heq⟩
  · refine .inl ⟨?_, fun hd ho => horphan (by rw [heq]; exact hd) (by rw [heq]; exact ho)⟩
    rw [← hcount, heq]
  · exact .inr ⟨⟨hd, ho⟩, heq, (hundef (by rw [heq]; rfl)).2⟩

theorem State.Torn.seq_of_undefined (hs : s.Scheduled) {k : SeqId} (hd : (s.seqs.at k).defined = false) :
    t.seqs.at k = s.seqs.at k := by
  obtain ⟨hcount, hundef, _⟩ := ((State.scheduled_iff _).1 hs).1.seqs.1 k
  have hzero : (s.seqs.at k).refCount = 0 := hcount.trans (hundef hd).2
  rcases hu.seq ht k with ⟨heq, _⟩ | ⟨⟨hd', _⟩, _⟩
  · obtain ⟨_, hundef', _⟩ := (hu.sequencesSound ht).1 k
    have hseq : t.seqs.at k = { s.seqs.at k with refCount := t.namers k } := by
      rw [ht.seq, heq, Seq.tornFor, if_neg (by simp [hd])]
    have hnone : t.namers k = 0 := (hundef' (by rw [hseq]; exact hd)).2
    rw [hseq, hnone, ← hzero]
  · rw [hd] at hd'
    cases hd'

theorem State.Torn.seq_of_own {k : SeqId} (hd : (s.seqs.at k).defined = true)
    (ho : (s.seqs.at k).owner = some h ∨ (s.seqs.at k).owner = none) :
    (t.namers k = 0 → t.seqs.at k = Seq.free) ∧
    (0 < t.namers k → t.seqs.at k = { s.seqs.at k with owner := none, refCount := t.namers k }) := by
  rw [ht.seq]
  rcases hu.seq ht k with ⟨heq, horphan⟩ | ⟨_, heq, hnone⟩
  · rw [heq, Seq.tornFor]
    rcases ho with ho | ho
    · rw [if_pos ⟨hd, ho⟩]
      exact ⟨fun hn => if_pos hn, fun hp => if_neg (by simp only; omega)⟩
    · have hpos := horphan hd ho
      rw [if_neg (by simp [ho]), ← ho]
      exact ⟨fun hn => by omega, fun _ => rfl⟩
  · rw [heq]
    exact ⟨fun _ => rfl, fun hp => by omega⟩

theorem State.Torn.seq_of_other {k : SeqId} {o : HostId} (ho : (s.seqs.at k).owner = some o) (hne : o ≠ h) :
    t.seqs.at k = { s.seqs.at k with refCount := t.namers k } := by
  rcases hu.seq ht k with ⟨heq, _⟩ | ⟨⟨_, hnone⟩, _⟩
  · rw [ht.seq, heq, Seq.tornFor, if_neg (by simp [ho, hne])]
  · rw [ho] at hnone
    cases hnone

/-! ### Groups and events (R141, R149) -/

omit hu in
theorem State.TornRest.own_group_free (hg : s.GroupsHeld u) {g : GroupId} (hs : (s.groups.at g).state ≠ .free)
    (hh : (s.groups.at g).host = h) : (t.groups.at g).state = .free := by
  obtain ⟨hhost, hstate⟩ := hg g
  rw [ht.group, Group.tornFor, if_pos ⟨mt hstate.1 hs, hhost.trans hh⟩]

omit hu in
theorem State.TornRest.occupants (g : GroupId) : (t.groups.at g).occupants = (u.groups.at g).occupants := by
  rw [ht.group, Group.tornFor]
  split <;> rfl

omit hu ht in
theorem State.leaves_torn_iff (s : State) (h : HostId) (k : JobId) : s.Leaves (s.holders h ++ s.others h) k ↔
    (s.job k).owner = h ∧ ((s.job k).state = .settling ∨ (s.job k).state = .preempted) := by
  rw [State.Leaves, State.mem_torn, Job.holdsFrameAtRest_iff]

omit hu in
theorem State.TornRest.occupant (hg : s.TornHolds (s.holders h ++ s.others h) u) (g : GroupId) (k : JobId) :
    (t.groups.at g).occupants.at k =
      if (s.job k).owner = h ∧ ((s.job k).state = .settling ∨ (s.job k).state = .preempted) then false
      else (s.groups.at g).occupants.at k := by
  rw [ht.occupants, Bool.eq_iff_iff, hg.occupants, s.leaves_torn_iff]
  split <;> simp [*]

omit hu in
/-- A group of the caller becomes FREE. -/
theorem State.TornRest.group_of_own (hg : s.TornHolds (s.holders h ++ s.others h) u) {g : GroupId}
    (hs : (s.groups.at g).state ≠ .free) (hh : (s.groups.at g).host = h) :
    t.groups.at g = ⟨.free, .h0, 0, 0, (t.groups.at g).occupants⟩ := by
  have hstate : (u.groups.at g).state ≠ .free ∧ (u.groups.at g).host = h := by
    by_cases hgr : s.GrantedBy (s.holders h ++ s.others h) g
    · rw [hg.granted g hgr]
      exact ⟨by simp, hh⟩
    · rw [hg.ungranted g hgr]
      exact ⟨hs, hh⟩
  rw [ht.occupants, ht.group, Group.tornFor, if_pos hstate]

omit hu in
/-- Any other group keeps its record, or is granted. -/
theorem State.TornRest.group_of_other (hg : s.TornHolds (s.holders h ++ s.others h) u) {g : GroupId}
    (hs : (s.groups.at g).state = .free ∨ (s.groups.at g).host ≠ h) :
    (s.GrantedBy (s.holders h ++ s.others h) g → (s.groups.at g).host ≠ h → t.groups.at g = { s.groups.at g with
      state := .held, expiry := s.leaseEnd g, occupants := (t.groups.at g).occupants }) ∧
    (¬ s.GrantedBy (s.holders h ++ s.others h) g →
      t.groups.at g = { s.groups.at g with occupants := (t.groups.at g).occupants }) := by
  rw [ht.occupants, ht.group]
  constructor
  · intro hgr hh
    rw [Group.tornFor, if_neg fun hc => hh ((hg.fields g).1.symm.trans hc.2)]
    exact hg.granted g hgr
  · intro hgr
    have hstate : (u.groups.at g).state = (s.groups.at g).state := by rw [hg.ungranted g hgr]
    rw [Group.tornFor, if_neg]
    · exact hg.ungranted g hgr
    · rintro ⟨hne, hh⟩
      rw [hstate] at hne
      exact hs.elim hne fun hk => hk ((hg.fields g).1.symm.trans hh)

omit hu in
theorem State.TornRest.events_of_other {k : HostId} (hk : k ≠ h) : t.events.get k = u.events.get k := by
  rw [ht.events, PerHost.get_put_of_ne _ _ hk]

/-! ### The engine (R116, R125, R168) -/

theorem State.Torn.engine_after (hs : s.Scheduled) :
    let freed := ∃ j : JobId, s.engine.settlingJob = some j ∧ (s.job j).owner = h
    let e := if s.engine.state = .settling ∧ freed then s.engine.released else s.engine
    t.engine = { e with
      requests := s.engine.requests.put h none, requesters := s.engine.requesters.put h false
      served := s.engine.served.put h false, effective := effectiveInterval (s.engine.requests.put h none)
      tornDown := if s.engine.state = .calibrating ∧ s.engine.cause = .startup then s.engine.tornDown.put h true
        else s.engine.tornDown } := by
  have hiff : (∃ k ∈ s.holders h ++ s.others h, s.engine.settlingJob = some k) ↔
      s.engine.state = .settling ∧ ∃ j : JobId, s.engine.settlingJob = some j ∧ (s.job j).owner = h := by
    constructor
    · rintro ⟨k, hk, hsome⟩
      exact ⟨((State.scheduled_iff _).1 hs).2.1.1 (by simp [hsome]), k, hsome, State.mem_torn.1 hk⟩
    · rintro ⟨_, k, hsome, hk⟩
      exact ⟨k, State.mem_torn.2 hk, hsome⟩
  dsimp only
  rw [ht.engine, hu.engine]
  by_cases hf : ∃ k ∈ s.holders h ++ s.others h, s.engine.settlingJob = some k
  · have hstate := (hiff.1 hf).1
    rw [if_pos hf, if_pos (hiff.1 hf)]
    simp [Engine.tornFor, Engine.released, Engine.startingUp, hstate]
  · rw [if_neg hf, if_neg (mt hiff.2 hf)]
    simp [Engine.tornFor, Engine.startingUp]

end Caller

theorem foldl_min_mem_and_le (l : List Nat) (x : Nat) :
    l.foldl min x ∈ x :: l ∧ ∀ y ∈ x :: l, l.foldl min x ≤ y := by
  induction l generalizing x with
  | nil => simp
  | cons a l ih =>
    obtain ⟨hmem, hle⟩ := ih (min x a)
    rw [List.foldl_cons]
    have hmin : l.foldl min (min x a) ≤ min x a := hle _ List.mem_cons_self
    refine ⟨?_, fun y hy => ?_⟩
    · rcases List.mem_cons.1 hmem with heq | hmem
      · rw [heq]
        rcases min_choice x a with hm | hm <;> simp [hm]
      · simp [hmem]
    · rcases List.mem_cons.1 hy with rfl | hy
      · exact hmin.trans (min_le_left ..)
      · rcases List.mem_cons.1 hy with rfl | hy
        · exact hmin.trans (min_le_right ..)
        · exact hle y (List.mem_cons_of_mem _ hy)

theorem mem_filterMap_get (r : PerHost (Option Nat)) (n : Nat) :
    n ∈ HostId.all.filterMap r.get ↔ ∃ k, r.get k = some n := by
  rw [List.mem_filterMap]
  constructor
  · rintro ⟨k, _, hk⟩
    exact ⟨k, hk⟩
  · rintro ⟨k, hk⟩
    exact ⟨k, by cases k <;> simp [HostId.all], hk⟩

/-- The effective interval is the smallest request, or 4,096 (R116). -/
theorem effectiveInterval_spec (r : PerHost (Option Nat)) :
    ((∀ k, r.get k = none) → effectiveInterval r = 4096) ∧
    ((∃ k, r.get k ≠ none) → (∃ k, r.get k = some (effectiveInterval r)) ∧
      ∀ k m, r.get k = some m → effectiveInterval r ≤ m) := by
  have hmem := mem_filterMap_get r
  unfold effectiveInterval
  cases hl : HostId.all.filterMap r.get with
  | nil =>
    refine ⟨fun _ => rfl, fun ⟨k, hk⟩ => ?_⟩
    obtain ⟨n, hn⟩ := Option.ne_none_iff_exists'.1 hk
    have := (hmem n).2 ⟨k, hn⟩
    rw [hl] at this
    cases this
  | cons x xs =>
    rw [hl] at hmem
    obtain ⟨hin, hle⟩ := foldl_min_mem_and_le xs x
    refine ⟨fun hnone => ?_, fun _ => ⟨(hmem _).1 hin, fun k m hk => hle m ((hmem m).2 ⟨k, hk⟩)⟩⟩
    obtain ⟨k, hk⟩ := (hmem x).1 List.mem_cons_self
    rw [hnone k] at hk
    cases hk

/-! ## What the teardown causes at the Dispatcher (R39, R51, log 8) -/

theorem State.releasedSince_iff (s t : State) : s.releasedSince t = true ↔
    s.pool.length < t.pool.length ∨ s.exc ≠ t.exc ∨ s.engine.state ≠ t.engine.state ∨
      ∃ g : GroupId, (s.groups.at g).state ≠ (t.groups.at g).state := by
  have hgroups : s.groups.map Group.state ≠ t.groups.map Group.state ↔
      ∃ g : GroupId, (s.groups.at g).state ≠ (t.groups.at g).state := by
    rw [← not_iff_not, not_not, not_exists]
    constructor
    · intro heq g
      have := congrArg (Vector.get · g) heq
      simpa [Table.at, Vector.get] using this
    · intro hall
      refine Vector.ext fun i hi => ?_
      have := hall ⟨i, hi⟩
      simpa [Table.at] using this
  simp only [State.releasedSince, Bool.or_eq_true, decide_eq_true_eq, hgroups]
  tauto

theorem State.intervalArrival_of_taken {s : State} (hs : s.engine.state = .converting ∨ s.engine.state = .calibrating) :
    s.intervalArrival = s := by
  have hfree : s.engine.free = false := by rcases hs with hs | hs <;> simp [Engine.free, hs]
  have hnot : s.settlingRoutine = none :=
    State.settlingRoutine_of_not_settling (by rcases hs with hs | hs <;> simp [hs])
  rw [State.intervalArrival, hnot, if_neg (by simp), State.arrival_of_taken hfree]

theorem State.tornArrival_cases (s t : State) :
    (t.engine.effective ≠ s.engine.effective → s.tornArrival t = t.intervalArrival) ∧
    (t.engine.effective = s.engine.effective → s.releasedSince t = true → s.tornArrival t = t.arrival) ∧
    (t.engine.effective = s.engine.effective → ¬ s.releasedSince t = true → s.tornArrival t = t) ∧
    (t.engine.state = .converting ∨ t.engine.state = .calibrating → s.tornArrival t = t) := by
  unfold State.tornArrival
  refine ⟨fun he => if_pos he, fun he hr => ?_, fun he hr => ?_, fun hs => ?_⟩
  · rw [if_neg (not_not.2 he), if_pos hr]
  · rw [if_neg (not_not.2 he), if_neg hr]
  · have hfree : t.engine.free = false := by rcases hs with hs | hs <;> simp [Engine.free, hs]
    rw [State.intervalArrival_of_taken hs, State.arrival_of_taken hfree]
    split
    · rfl
    · split <;> rfl

end Sys2Proof.Machine

namespace Sys2Proof.Machine

/-! ## HOST_RESET (R183) -/

theorem State.Offered.exec_hostReset {s : State} {h : HostId} (ho : s.Offered h (.hostReset h [])) :
    exec (.hostReset h []) s = .next ((s.tornArrival (s.teardown h)).respond h .ok []) := by
  have hexec : exec (.hostReset h []) s =
    .next (s.take h (.hostReset h []) (expecting 0 [] (State.hostReset h))) := rfl
  rw [hexec, ho.take, expecting_of_length (State.hostReset h) s (show ([] : List Byte).length = 0 from rfl), State.hostReset, State.answer]

/-- The grants of a teardown, in the words of O56. -/
theorem State.grantedBy_torn_iff (s : State) (h : HostId) (g : GroupId) :
    s.GrantedBy (s.holders h ++ s.others h) g ∧ (s.groups.at g).host ≠ h ↔
      (s.groups.at g).state = .pending ∧ (s.groups.at g).host ≠ h ∧
      (∃ j : JobId, ((s.job j).owner = h ∧ ((s.job j).state = .settling ∨ (s.job j).state = .preempted)) ∧
        (s.groups.at g).occupants.at j = true) ∧
      ∀ j : JobId, (s.groups.at g).occupants.at j = true →
        ((s.job j).owner = h ∧ ((s.job j).state = .settling ∨ (s.job j).state = .preempted)) ∨
        (s.job j).owner = (s.groups.at g).host := by
  simp only [State.GrantedBy, s.leaves_torn_iff]
  constructor
  · rintro ⟨⟨hp, hleft, hall⟩, hh⟩
    exact ⟨hp, hh, hleft, hall⟩
  · rintro ⟨hp, hh, hleft, hall⟩
    exact ⟨⟨hp, hleft, hall⟩, hh⟩

/-- The groups and the other hosts' events after a teardown, when every job holds what its state says (R141, R149). -/
theorem State.TornRest.holds {s u t : State} {h : HostId} (ht : u.TornRest h t)
    (hg : s.TornHolds (s.holders h ++ s.others h) u) :
    let holds := fun j : JobId =>
      (s.job j).owner = h ∧ ((s.job j).state = .settling ∨ (s.job j).state = .preempted)
    let granted := fun g : GroupId => (s.groups.at g).state = .pending ∧ (s.groups.at g).host ≠ h ∧
      (∃ j : JobId, holds j ∧ (s.groups.at g).occupants.at j = true) ∧
      ∀ j : JobId, (s.groups.at g).occupants.at j = true → holds j ∨ (s.job j).owner = (s.groups.at g).host
    let expiry := fun g : GroupId => s.timeBase + BitVec.ofNat 32 (1000 * (s.groups.at g).lease)
    (∀ g : GroupId,
      let r := s.groups.at g
      let left := (t.groups.at g).occupants
      (∀ j : JobId, left.at j = if holds j then false else r.occupants.at j) ∧
      (r.state ≠ .free → r.host = h → t.groups.at g = ⟨.free, .h0, 0, 0, left⟩) ∧
      (r.state = .free ∨ r.host ≠ h →
        (granted g → t.groups.at g = { r with state := .held, expiry := expiry g, occupants := left }) ∧
        (¬ granted g → t.groups.at g = { r with occupants := left }))) ∧
    (∀ k : HostId, k ≠ h → ∃ order : List GroupId, order.Nodup ∧
      (∀ g : GroupId, g ∈ order ↔ granted g ∧ (s.groups.at g).host = k) ∧
      t.events.get k = order.foldl (fun q g =>
        q.push ⟨s.timeBase, none, none, .holdGranted g (s.groups.at g).lease (expiry g)⟩) (s.events.get k)) := by
  dsimp only
  refine ⟨fun g => ⟨fun j => ht.occupant hg g j, fun hs hh => ht.group_of_own hg hs hh, fun hs => ?_⟩, fun k hk => ?_⟩
  · obtain ⟨hgr, hun⟩ := ht.group_of_other hg hs
    refine ⟨fun hw => ?_, fun hw => hun fun hb => ?_⟩
    · obtain ⟨hb, hh⟩ := (s.grantedBy_torn_iff h g).2 hw
      exact hgr hb hh
    · refine hw ((s.grantedBy_torn_iff h g).1 ⟨hb, hs.resolve_left fun hf => ?_⟩)
      rw [hb.1] at hf
      cases hf
  · obtain ⟨order, hnodup, hmem, htold⟩ := hg.events k
    refine ⟨order, hnodup, fun g => ?_, (ht.events_of_other hk).trans htold⟩
    rw [hmem, ← s.grantedBy_torn_iff h g]
    constructor
    · rintro ⟨hb, rfl⟩
      exact ⟨⟨hb, hk⟩, rfl⟩
    · rintro ⟨⟨hb, _⟩, hh⟩
      exact ⟨hb, hh⟩

/-- Settles O56: `State.Torn` after the Job Controller's part, `State.TornRest` after the others'. -/
theorem hostResetTearsDownTheCaller : Obligations.HostResetTearsDownTheCaller := by
  intro h s ho hs
  have hexec := ho.exec_hostReset
  have hu := State.tearJobs_torn hs h
  have ht := s.teardown_tornRest h
  have hheld := State.tearJobs_groupsHeld hs h
  have hholds := fun hh => State.tearJobs_holds hs hh h
  have hnone := State.tearJobs_noGrant hs h
  generalize s.tearJobs h = u at hu ht hheld hholds hnone
  generalize s.teardown h = t at hexec ht
  obtain ⟨hpending, hreset, htime, halloc, hports, hlevels, hallowance⟩ := hu.kept_after ht
  have hengine := hu.engine_after ht hs
  have heffective : t.engine.effective = effectiveInterval (s.engine.requests.put h none) := by rw [hengine]
  have hjob (j : JobId) := hu.job_after ht j
  obtain ⟨hchanged, hreleased, hquiet, htaken⟩ := s.tornArrival_cases t
  refine ⟨t, ⟨fun he => ?_, fun he hr => ?_, fun he hr => ?_, fun hc => ?_⟩, hpending, hports, ?_, htime, hlevels, halloc,
    hallowance, ht.decisionDue.trans hu.decisionDue, fun j hj => ?_, fun j hj => ⟨fun hst => ?_, fun hrun hstop => ?_⟩,
    hu.queue_after ht, ⟨hu.store_after ht, hu.transient_after ht, fun hh => ht.holds (hholds hh)⟩, hu.waiting_after ht,
    hu.delivery_after ht, hu.standing_after ht, ht.output, fun he => (hu.fallen_after ht he).once he,
    fun k hk => hu.windows_after ht hk, ht.window, ?_, fun hn k hk => ?_, fun g hst hh => ht.own_group_free hheld hst hh,
    ⟨?_, ?_, ?_⟩, fun k hd => hu.seq_of_undefined ht hs hd, (hu.sequencesSound ht).2,
    fun k hd hown => hu.seq_of_own ht hd hown, fun k o hown hne => hu.seq_of_other ht hown hne⟩
  · rw [hexec, hchanged he]
  · rw [hexec, hreleased he ((s.releasedSince_iff t).2 hr)]
  · rw [hexec, hquiet he (mt (s.releasedSince_iff t).1 hr)]
  · have hstate : t.engine.state = s.engine.state := by
      rw [hengine]
      simp only
      rw [if_neg]
      rintro ⟨hset, _⟩
      rw [hset] at hc
      rcases hc with hc | hc <;> cases hc
    rw [hexec, htaken (by rwa [hstate])]
  · exact hreset.trans ho.1
  · rw [hjob, if_neg hj]
  · rw [hjob, if_pos hj, Job.torn, if_pos hst]
  · rw [hjob, if_pos hj, Job.torn, if_neg (by simp [hrun, hstop])]
    split
    · assumption
    · rfl
  · rw [ht.events, PerHost.get_put_same]
    rfl
  · rw [ht.events_of_other hk, (hnone hn).events]
  · rw [heffective]
    exact hengine
  · rw [heffective]
    exact (effectiveInterval_spec _).1
  · rw [heffective]
    exact (effectiveInterval_spec _).2

end Sys2Proof.Machine

namespace Sys2Proof.Machine

/-! ## The order of the dispatch queue (R24, R25, R26) -/

/-- Keys 4 and 5 of Table 2-1, as one condition. -/
theorem precedesByStamp_iff (now : Time) (a b : Job) (ja jb : JobId) :
    precedesByStamp now a b ja jb = true ↔
      (now - b.stamp.time).toNat < (now - a.stamp.time).toNat ∨
      ((now - a.stamp.time).toNat = (now - b.stamp.time).toNat ∧ a.stamp.mark ≠ none ∧
        a.stamp.mark = b.stamp.mark ∧ ja < jb) := by
  unfold precedesByStamp age
  generalize (now - a.stamp.time).toNat = ageA
  generalize (now - b.stamp.time).toNat = ageB
  by_cases hage : ageA = ageB
  · simp [hage, Option.isSome_iff_ne_none, and_assoc]
  · simp [hage]

/-- The keys of Table 2-1: the first on which two entries differ decides. -/
theorem precedes_iff (now : Time) (a b : Job) (ja jb : JobId) :
    precedes now a b ja jb = true ↔
      (a.cls = .urgent ∧ b.cls = .routine) ∨
      (a.cls = b.cls ∧ b.priority < a.priority) ∨
      (a.cls = b.cls ∧ a.priority = b.priority ∧ a.state = .preempted ∧ b.state ≠ .preempted) ∨
      (a.cls = b.cls ∧ a.priority = b.priority ∧ a.state = b.state ∧ precedesByStamp now a b ja jb = true) := by
  unfold precedes
  by_cases hcls : a.cls = b.cls
  · have hsame : ¬ (a.cls = .urgent ∧ b.cls = .routine) := by
      rintro ⟨ha, hb⟩
      rw [hcls, hb] at ha
      cases ha
    rw [or_iff_right hsame]
    by_cases hpriority : a.priority = b.priority
    · by_cases hstate : a.state = b.state
      · simp [hcls, hpriority, hstate]
      · have hdiffer : a.state = .preempted → b.state ≠ .preempted := fun ha hb => hstate (ha.trans hb.symm)
        simpa [hcls, hpriority, hstate] using hdiffer
    · simp [hcls, hpriority]
  · have hother (ha : a.cls = .urgent) : b.cls = .routine := by
      cases hb : b.cls with
      | routine => rfl
      | urgent => exact absurd (ha.trans hb.symm) hcls
    simpa [hcls] using hother

/-- A placed job stands immediately before the first entry it precedes, else at the tail (R25). -/
theorem placeInQueue_eq_append (precedesEntry : JobId → Bool) (j : JobId) (l : List JobId) :
    ∃ before after : List JobId, l = before ++ after ∧ (∀ k ∈ before, precedesEntry k = false) ∧
      (∀ k ∈ after.head?, precedesEntry k = true) ∧ placeInQueue precedesEntry j l = before ++ [j] ++ after := by
  induction l with
  | nil => exact ⟨[], [], rfl, by simp, by simp, rfl⟩
  | cons k ks ih =>
    unfold placeInQueue
    split
    · exact ⟨[], k :: ks, rfl, by simp, by simpa, rfl⟩
    · rename_i hk
      obtain ⟨before, after, hl, hbefore, hafter, hplaced⟩ := ih
      exact ⟨k :: before, after, by rw [hl]; rfl, List.forall_mem_cons.2 ⟨by simpa using hk, hbefore⟩, hafter,
        by rw [hplaced]; rfl⟩

/-- Settles O31: the keys are `precedes_iff`, the place is `placeInQueue_eq_append`. -/
theorem queueEntriesAreOrdered : Obligations.QueueEntriesAreOrdered := by
  refine ⟨fun now a b ja jb => ?_, fun s j _ => ?_⟩
  · rw [precedes_iff, precedesByStamp_iff]
  · obtain ⟨before, after, hqueue, hbefore, hafter, hplaced⟩ :=
      placeInQueue_eq_append (fun k => precedes s.timeBase (s.job j) (s.job k) j k) j s.queue
    refine ⟨before, after, hqueue, hbefore, hafter, ?_⟩
    rw [State.enqueue, hplaced]
    rfl

end Sys2Proof.Machine

namespace Sys2Proof.Machine

/-! ## A free decision without a selection (R27, R31, R34, R119) -/

theorem Group.blocks_iff (g : Group) (owner : HostId) (st : JobState) :
    g.blocks owner st = true ↔ g.host ≠ owner ∧ (g.state = .held ∨ g.state = .pending ∧ st = .pending) := by
  unfold Group.blocks
  cases g.state <;> simp

/-- The entries that a hold keeps back (R27, R28). -/
theorem State.heldBack_iff (s : State) (j : JobId) : s.heldBack j = true ↔
    (s.job j).cls = .routine ∧ ∃ g : GroupId, (s.seqOf j).touches g = true ∧ (s.groups.at g).host ≠ (s.job j).owner ∧
      ((s.groups.at g).state = .held ∨ (s.groups.at g).state = .pending ∧ (s.job j).state = .pending) := by
  unfold State.heldBack
  cases (s.job j).cls with
  | urgent => simp
  | routine => simp [State.mem_groupsOf, Group.blocks_iff]

theorem Engine.due_iff (e : Engine) : e.due = true ↔ e.effective ≤ e.counter := decide_eq_true_iff

theorem Engine.requested_iff (e : Engine) : e.requested = true ↔
    e.requesters.h0 = true ∨ e.requesters.h1 = true ∨ e.requesters.h2 = true := by
  simp [Engine.requested, someHost, or_assoc]

theorem PerHost.eq_false_of_not {p : PerHost Bool} (hp : ¬ (p.h0 = true ∨ p.h1 = true ∨ p.h2 = true)) :
    p = ⟨false, false, false⟩ := by
  obtain ⟨h0, h1, h2⟩ := p
  simpa using hp

/-- The engine as a decision's calibration leaves it (R119). -/
theorem Engine.startCalibration_eq (e : Engine) (now : Time) : e.startCalibration now = { e with
    state := .calibrating, served := e.requesters, requesters := ⟨false, false, false⟩, startCount := e.counter
    calStart := now
    cause :=
      if e.requesters.h0 = true ∨ e.requesters.h1 = true ∨ e.requesters.h2 = true then .requested
      else if e.effective + 64 ≤ e.counter then .overdue else .due } := by
  simp only [Engine.startCalibration, Engine.requested_iff, Engine.overdue, decide_eq_true_eq]
  rfl

theorem State.Refreshed.engine {s t : State} (ht : s.Refreshed t) : t.engine = s.engine := by rw [ht.eq]

theorem State.Refreshed.timeBase {s t : State} (ht : s.Refreshed t) : t.timeBase = s.timeBase := by rw [ht.eq]

/-- In IDLE a calibration that is due or requested comes before any job (R31). -/
theorem State.freeDecision_of_calibration {s : State} (hs : s.engine.state = .idle)
    (hc : (s.engine.due || s.engine.requested) = true) :
    let t := State.refreshBlocked { s with decisionDue := false }
    s.freeDecision = { t with engine := s.engine.startCalibration s.timeBase } := by
  unfold State.freeDecision
  simp only [hs, s.refreshed.engine, s.refreshed.timeBase, hc, if_true]

/-- In FAULT only a requested calibration is started, and no job is selected (R31, R34). -/
theorem State.freeDecision_of_fault {s : State} (hs : s.engine.state = .fault) :
    let t := State.refreshBlocked { s with decisionDue := false }
    s.freeDecision = if s.engine.requested then { t with engine := s.engine.startCalibration s.timeBase } else t := by
  unfold State.freeDecision
  simp only [hs, s.refreshed.engine, s.refreshed.timeBase]

/-- With the converter taken no decision is made (R43). -/
theorem State.freeDecision_of_taken {s : State} (hidle : s.engine.state ≠ .idle) (hfault : s.engine.state ≠ .fault) :
    s.freeDecision = s := by
  unfold State.freeDecision
  split
  · exact absurd ‹_› hidle
  · exact absurd ‹_› hfault
  · rfl
  · rfl
  · rfl

/-- Settles O32, by the state of the converter; the state between is that of `State.refreshed`. -/
theorem freeDecisionCalibratesOrWaits : Obligations.FreeDecisionCalibratesOrWaits := by
  refine ⟨State.heldBack_iff, fun s => ?_⟩
  have ht := s.refreshed
  have heq : State.refreshBlocked { s with decisionDue := false } =
      { s with jobs := (State.refreshBlocked { s with decisionDue := false }).jobs, decisionDue := false } := ht.eq
  refine ⟨State.refreshBlocked { s with decisionDue := false }, heq, ht.job, fun hs hc => ?_, fun hs hr => ?_,
    fun hs hr => ?_, fun hs hc hr hn => ?_, State.freeDecision_of_taken⟩
  · rw [← Engine.due_iff, ← Engine.requested_iff, ← Bool.or_eq_true] at hc
    rw [State.freeDecision_of_calibration hs hc, Engine.startCalibration_eq]
  · rw [State.freeDecision_of_fault hs, if_pos ((Engine.requested_iff _).2 hr), Engine.startCalibration_eq]
  · rw [State.freeDecision_of_fault hs, if_neg (mt (Engine.requested_iff _).1 hr)]
  · rw [State.freeDecision_of_freeForJobs ⟨hs, hc, PerHost.eq_false_of_not hr⟩]
    refine State.select_of_none fun k hk => (ht.heldBack k).trans (hn k ?_)
    rwa [State.refreshBlocked_queue] at hk

end Sys2Proof.Machine

namespace Sys2Proof.Machine

/-! ## Taking a command of the expected length (R173, R180) -/

/-- A command in hand with its expected length has its block's outcome. -/
theorem exec_of_offered {h : HostId} {s : State} {i : Instr} {n : Nat} {args : List Byte} {block : State → Reply}
    (hexec : exec i s = .next (s.take h i (expecting n args block))) (ho : s.Offered h i) (hl : args.length = n) :
    exec i s = .next ((block s).state.respond h (block s).status (block s).payload) := by
  rw [hexec, ho.take, expecting_of_length _ _ hl]

/-! ## CLAIM_EXC (R127) -/

theorem levelOf_rank (l : Level) : levelOf l.rank = some l := by cases l <;> rfl

theorem levelOf_of_le {n : Nat} (hn : 4 ≤ n) : levelOf n = none := by
  obtain ⟨m, rfl⟩ := Nat.exists_eq_add_of_le' hn
  rfl

/-- CLAIM_EXC goes by the level that its byte names. -/
theorem exec_claimExc {h : HostId} {b : Byte} {s : State} (ho : s.Offered h (.claimExc h [b])) :
    (levelOf b.toNat = none → exec (.claimExc h [b]) s = .next (s.respond h .badArgument [])) ∧
    (∀ l, levelOf b.toNat = some l → exec (.claimExc h [b]) s =
      .next ((s.claimExc h l).state.respond h (s.claimExc h l).status (s.claimExc h l).payload)) := by
  have harg : argByte [b] 0 = b.toNat := rfl
  rw [exec_of_offered (n := 1) rfl ho rfl, harg]
  refine ⟨fun hn => ?_, fun l hl => ?_⟩
  · rw [hn]
    rfl
  · rw [hl]

/-- Settles O51: a claim repeated and a claim changed are the two branches of `State.claimExc`; the levels answered after
a change are those of the recomputed excitation, whose standing claims are the ones set. -/
theorem claimExcSetsTheStandingClaim : Obligations.ClaimExcSetsTheStandingClaim := by
  intro h b s ho
  obtain ⟨hrefused, htaken⟩ := exec_claimExc ho
  refine ⟨fun hb => hrefused (levelOf_of_le hb), fun l hl => ?_⟩
  rw [htaken l (by rw [hl, levelOf_rank])]
  refine ⟨fun hs => ?_, fun hs => ?_⟩
  · rw [if_pos hs, State.claimExc, if_pos hs, State.answer, State.claimImage, hs]
    rfl
  · have himage : (s.setStanding h l).claimImage h = [byteOf l.rank, byteOf (s.setStanding h l).exc.output.rank,
        byteOf (s.setStanding h l).exc.settled.rank] := by
      simp [State.claimImage, State.setStanding]
    rw [if_neg hs, State.claimExc, if_neg hs, State.answer, himage]
    rfl

end Sys2Proof.Machine

namespace Sys2Proof.Machine

/-! ## Numbers within a payload (R186) -/

theorem numberAt_add (p : List Byte) (i k n : Nat) : numberAt p (i + k) n = numberAt (p.drop i) k n := by
  simp [numberAt, List.drop_drop]

/-- The records of a payload, all of one width: what follows the first `k` of them. -/
theorem drop_flatten_map {α : Type} {image : α → List Byte} {width : Nat} (hw : ∀ x, (image x).length = width)
    (l : List α) (k : Nat) : ((l.map image).flatten).drop (width * k) = ((l.drop k).map image).flatten := by
  induction k generalizing l with
  | zero => rfl
  | succ k ih =>
    cases l with
    | nil => simp
    | cons x l =>
      rw [Nat.mul_succ, Nat.add_comm, ← List.drop_drop, List.map_cons, List.flatten_cons, ← hw x, List.drop_left, hw x,
        ih, List.drop_succ_cons]

theorem length_flatten_map {α : Type} {image : α → List Byte} {width : Nat} (hw : ∀ x, (image x).length = width)
    (l : List α) : ((l.map image).flatten).length = width * l.length := by
  simp [List.length_flatten, Function.comp_def, hw, Nat.mul_comm]

/-! ## The FETCH_FRAME payload (R67, Table 12-7) -/

theorem Gain.code_lt (g : Gain) : g.code < 4 := by cases g <;> decide

theorem Zone.code_lt (z : Zone) : z.code < 4 := by cases z <;> decide

theorem Sample.image_length (y : Sample) : y.image.length = 3 := rfl

/-- The two numbers of a sample's three bytes. -/
theorem Sample.image_numbers (y : Sample) (rest : List Byte) :
    numberAt (y.image ++ rest) 0 1 = 16 * y.channel.val + 4 * y.gain.code + y.zone.code ∧
    numberAt (y.image ++ rest) 1 2 = 32768 * bit y.stale + y.code.toNat := by
  have hgain := y.gain.code_lt
  have hzone := y.zone.code_lt
  have hstale := bit_lt y.stale
  have hchannel := y.channel.isLt
  have hcode := y.code.isLt
  simp only [Sample.image, numberAt, packBits, bitsByte, List.cons_append, List.nil_append, List.drop_succ_cons,
    List.drop_zero, List.take_succ_cons, List.take_zero, List.foldl_cons, List.foldl_nil, toNat_byteOf, Nat.reducePow,
    Nat.zero_mul, Nat.zero_add]
  omega

/-- The numbers of the twelve bytes before the samples. -/
theorem Frame.image_header (r : Frame) (f : FrameId) :
    let p := r.image f
    numberAt p 0 1 = f.val ∧ numberAt p 1 1 = r.job.val ∧ numberAt p 2 2 = r.run.toNat ∧
    numberAt p 4 4 = r.triggerTime.toNat ∧
    numberAt p 8 1 = bit r.deadlineMissed + 2 * bit r.stalePresent + 4 * bit r.restarted ∧
    numberAt p 9 1 = r.preemptCount % 256 ∧ numberAt p 10 1 = r.missedCount % 256 ∧
    numberAt p 11 1 = r.sampleCount % 256 := by
  have hframe := f.isLt
  have hjob := r.job.isLt
  have hrestarted := bit_lt r.restarted
  have hstale := bit_lt r.stalePresent
  have hmissed := bit_lt r.deadlineMissed
  simp only [Frame.image, bytesOf, numberAt, packBits, bitsByte, List.cons_append, List.nil_append, List.drop_succ_cons,
    List.drop_zero, List.take_succ_cons, List.take_zero, List.foldl_cons, List.foldl_nil, toNat_byteOf, Nat.reducePow,
    Nat.zero_mul, Nat.zero_add, Nat.div_one, pair_of_bytes, quad_of_bytes]
  exact ⟨by omega, by omega, Nat.mod_eq_of_lt r.run.isLt, trivial, by omega, trivial, trivial, trivial⟩

/-- The samples begin after the twelve bytes of the header. -/
theorem Frame.image_drop_header (r : Frame) (f : FrameId) :
    (r.image f).drop 12 = ((r.samples.toList.take r.sampleCount).map Sample.image).flatten := rfl

theorem Frame.image_length {r : Frame} (hr : r.sampleCount ≤ 16) (f : FrameId) :
    (r.image f).length = 12 + 3 * r.sampleCount := by
  have hsamples : (r.samples.toList.take r.sampleCount).length = r.sampleCount := by simp [hr]
  have hheader : (r.image f).length =
    ((r.samples.toList.take r.sampleCount).map Sample.image).flatten.length + 12 := rfl
  rw [hheader, length_flatten_map Sample.image_length, hsamples, Nat.add_comm]

/-- The image of a sample stands in the payload at the place of its step. -/
theorem Frame.image_drop_sample {r : Frame} (f : FrameId) {k : Fin 16} (hk : k.val < r.sampleCount) :
    ∃ rest : List Byte, (r.image f).drop (12 + 3 * k.val) = (r.samples.at k).image ++ rest := by
  have hlength : k.val < (r.samples.toList.take r.sampleCount).length := by simp [hk]
  rw [← List.drop_drop, r.image_drop_header, drop_flatten_map Sample.image_length, List.drop_eq_getElem_cons hlength,
    List.map_cons, List.flatten_cons, List.getElem_take, Vector.getElem_toList]
  exact ⟨_, rfl⟩

/-- The numbers of a sample in the payload. -/
theorem Frame.image_sample {r : Frame} (f : FrameId) {k : Fin 16} (hk : k.val < r.sampleCount) :
    let y := r.samples.at k
    numberAt (r.image f) (12 + 3 * k.val) 1 = 16 * y.channel.val + 4 * y.gain.code + y.zone.code ∧
    numberAt (r.image f) (13 + 3 * k.val) 2 = 32768 * bit y.stale + y.code.toNat := by
  obtain ⟨rest, hrest⟩ := Frame.image_drop_sample f hk
  have hnumber (i n : Nat) : numberAt (r.image f) (12 + 3 * k.val + i) n =
      numberAt ((r.samples.at k).image ++ rest) i n := by
    rw [numberAt_add, hrest]
  obtain ⟨hfirst, hsecond⟩ := (r.samples.at k).image_numbers rest
  refine ⟨(hnumber 0 1).trans hfirst, ?_⟩
  rw [show 13 + 3 * k.val = 12 + 3 * k.val + 1 by omega]
  exact (hnumber 1 2).trans hsecond

/-! ## FETCH_FRAME and FLUSH_FRAMES (R67, R68) -/

/-- Settles O43: a head frame fetched is `State.fetchFrame` with the payload `Frame.image`; the delivery queue flushed is
`State.flushDelivery_eq`. -/
theorem fetchAndFlushReturnFrames : Obligations.FetchAndFlushReturnFrames := by
  refine ⟨fun h s ho => ?_, fun h s ho => ?_⟩
  · rw [exec_of_offered (block := State.fetchFrame h) (n := 0) rfl ho rfl]
    refine ⟨fun hd => ?_, fun f rest hd => ?_⟩
    · rw [State.fetchFrame, hd]
    · obtain ⟨hid, hjob, hrun, htime, hflags, hpreempted, hmissed, hcount⟩ := (s.frames.at f).image_header f
      refine ⟨(s.frames.at f).image f, ?_, hid, hjob, hrun, htime, hflags, hpreempted, hmissed, hcount,
        fun hc => Frame.image_length hc f, fun k hk => Frame.image_sample f hk⟩
      rw [State.fetchFrame, hd]
      rfl
  · rw [exec_of_offered (block := State.flushFrames h) (n := 0) rfl ho rfl]
    refine ⟨fun hd => ?_, fun hd => ?_⟩
    · rw [State.flushFrames, hd]
      rfl
    · refine ⟨freedFrames s.frames (s.delivery.get h), freedFrames_at _ _, ?_⟩
      obtain ⟨f, rest, hq⟩ := List.exists_cons_of_ne_nil hd
      have hflush : s.flushFrames h = (s.flushDelivery h).arrival.answer [byteOf (s.delivery.get h).length] := by
        rw [State.flushFrames, hq]
      rw [hflush, State.flushDelivery_eq]
      rfl

end Sys2Proof.Machine

namespace Sys2Proof.Machine

/-! ## RESET_N_RELEASE (R57, R124, R169, R177) -/

/-- The four rows of Table 3-3. -/
theorem allowancesOf_eq (alloc : BitVec 2) : allowancesOf alloc =
    if alloc = 0 then ⟨16, 16, 16⟩ else if alloc = 1 then ⟨24, 12, 12⟩
    else if alloc = 2 then ⟨12, 24, 12⟩ else ⟨12, 12, 24⟩ := by
  revert alloc
  decide

/-- Settles O3: the blank blocks by `releasedState_blank`, ports and events by `releasedState_port` and
`releasedState_events`. -/
theorem releaseStartsThePart : Obligations.ReleaseStartsThePart := by
  refine ⟨fun s alloc levels csLow hs => ?_, fun s alloc levels csLow hs => ?_⟩
  · have hb := releasedState_blank alloc levels csLow
    have hexec : exec (.resetNRelease alloc levels csLow) s =
        .next { releasedState alloc levels csLow with pending := s.pending, draws := s.draws } :=
      congrArg Host.Outcome.next (if_pos hs)
    refine ⟨_, hexec, rfl, rfl, rfl, rfl, rfl, rfl, allowancesOf_eq alloc, fun h => ?_, rfl, fun j => ⟨?_, ?_⟩,
      fun k => ?_, rfl, rfl, rfl, rfl, rfl, rfl, rfl, rfl, fun g => ?_⟩
    · have hport := releasedState_port alloc levels csLow h
      exact ⟨congrArg Port.slot hport, congrArg Port.readiness hport, congrArg Port.transaction hport,
        congrArg Port.inHand hport, congrArg Port.prepared hport, releasedState_events alloc levels csLow h,
        PerHost.get_same .., PerHost.get_same .., PerHost.get_same ..,
        fun w => congrArg Window.enabled (hb.window h w)⟩
    · exact congrArg Job.state (hb.job j)
    · exact Table.at_replicate ..
    · have hseq := hb.seq k
      exact ⟨congrArg Seq.defined hseq, congrArg Seq.refCount hseq⟩
    · have hgroup := hb.group g
      exact ⟨congrArg Group.state hgroup, fun j => (congrArg (·.occupants.at j) hgroup).trans (Table.at_replicate ..)⟩
  · exact congrArg Host.Outcome.next (if_neg (by simp [hs]))

end Sys2Proof.Machine

namespace Sys2Proof.Machine

/-! ## The places of the frames, counted (R53, R57)

A permutation of all frames is, frame by frame, a count of one; so an operation on one job is judged by what that job's
record adds to the counts. -/

/-- A number that each job record contributes to, summed over the job table. -/
def State.tally (s : State) (n : Job → Nat) : Nat := (allJobs.map fun j => n (s.job j)).sum

/-- The same over all jobs but one. -/
def State.tallyBut (s : State) (j : JobId) (n : Job → Nat) : Nat := ((allJobs.erase j).map fun k => n (s.job k)).sum

theorem State.tally_eq (s : State) (j : JobId) (n : Job → Nat) : s.tally n = n (s.job j) + s.tallyBut j n :=
  (List.sum_map_erase (fun k => n (s.job k)) (mem_allJobs j)).symm

theorem State.tallyBut_congr {s t : State} {j : JobId} {n : Job → Nat} (h : ∀ k, k ≠ j → n (t.job k) = n (s.job k)) :
    t.tallyBut j n = s.tallyBut j n := by
  unfold State.tallyBut
  rw [List.map_congr_left fun k hk => h k ((allJobs_nodup.mem_erase_iff.1 hk).1)]

theorem State.le_tallyBut (s : State) {j k : JobId} (hk : k ≠ j) (n : Job → Nat) : n (s.job k) ≤ s.tallyBut j n :=
  List.single_le_sum (fun _ _ => Nat.zero_le _) _
    (List.mem_map_of_mem (f := fun k => n (s.job k)) (allJobs_nodup.mem_erase_iff.2 ⟨hk, mem_allJobs k⟩))

/-- How often a record holds a frame: once as its fill frame, or not at all. -/
def Job.fills (r : Job) (f : FrameId) : Nat := r.fillFrame.toList.count f

/-- How many frames a record holds for a host. -/
def Job.fillsFor (r : Job) (h : HostId) : Nat := if r.owner = h then r.fillFrame.toList.length else 0

/-- How often a frame stands in the delivery queues. -/
def deliveredCount (delivery : PerHost (List FrameId)) (f : FrameId) : Nat :=
  (delivery.get .h0).count f + (delivery.get .h1).count f + (delivery.get .h2).count f

theorem deliveredCount_put (delivery : PerHost (List FrameId)) (h : HostId) (l : List FrameId) (f : FrameId) :
    deliveredCount (delivery.put h l) f + (delivery.get h).count f = deliveredCount delivery f + l.count f := by
  cases h <;> simp only [deliveredCount, PerHost.put, PerHost.get] <;> omega

theorem add_le_deliveredCount (delivery : PerHost (List FrameId)) {h k : HostId} (hne : h ≠ k) (f : FrameId) :
    (delivery.get h).count f + (delivery.get k).count f ≤ deliveredCount delivery f := by
  unfold deliveredCount
  cases h <;> cases k <;> grind

theorem le_deliveredCount (delivery : PerHost (List FrameId)) (h : HostId) (f : FrameId) :
    (delivery.get h).count f ≤ deliveredCount delivery f := by
  cases h <;> simp only [deliveredCount] <;> omega

/-- In how many places a frame stands: in the pool, as a fill frame and in the delivery queues. -/
def State.places (s : State) (f : FrameId) : Nat :=
  s.pool.count f + s.tally (fun r => r.fills f) + deliveredCount s.delivery f

theorem filterMap_fills_count (s : State) (h : HostId) (f : FrameId) (l : List JobId) :
    ((l.filter fun j => (s.job j).owner == h).filterMap fun j => (s.job j).fillFrame).count f =
      (l.map fun j => if (s.job j).owner = h then (s.job j).fills f else 0).sum := by
  induction l with
  | nil => rfl
  | cons j l ih =>
    by_cases ho : (s.job j).owner = h
    · cases hf : (s.job j).fillFrame <;>
        simp [ho, hf, ih, Job.fills, List.count_cons, Nat.add_comm]
    · simp [ho, ih]

theorem filterMap_fills_length (s : State) (h : HostId) (l : List JobId) :
    ((l.filter fun j => (s.job j).owner == h).filterMap fun j => (s.job j).fillFrame).length =
      (l.map fun j => (s.job j).fillsFor h).sum := by
  induction l with
  | nil => rfl
  | cons j l ih =>
    by_cases ho : (s.job j).owner = h
    · cases hf : (s.job j).fillFrame <;>
        simp [ho, hf, ih, Job.fillsFor, Nat.add_comm]
    · simp [ho, ih, Job.fillsFor]

theorem State.fillFrames_length (s : State) (h : HostId) :
    (s.fillFrames h).length = s.tally fun r => r.fillsFor h := filterMap_fills_length s h allJobs

/-- Every job has one of the three hosts. -/
theorem State.fillFrames_count (s : State) (f : FrameId) :
    (s.fillFrames .h0).count f + (s.fillFrames .h1).count f + (s.fillFrames .h2).count f =
      s.tally fun r => r.fills f := by
  unfold State.fillFrames
  rw [filterMap_fills_count, filterMap_fills_count, filterMap_fills_count, State.tally, ← List.sum_map_add,
    ← List.sum_map_add]
  refine congrArg List.sum (List.map_congr_left fun j _ => ?_)
  cases (s.job j).owner <;> simp

theorem allFrames_count (f : FrameId) : allFrames.count f = 1 := by
  revert f
  decide

theorem State.placesSound_iff (s : State) : s.PlacesSound ↔ ∀ f, s.places f = 1 := by
  unfold State.PlacesSound
  rw [List.perm_iff_count]
  refine forall_congr' fun f => ?_
  have := s.fillFrames_count f
  simp only [List.count_append, allFrames_count, State.places, deliveredCount, PerHost.get]
  omega

/-- The frames in their places, and the counts of frames in use (R53, R57). -/
structure State.Ledger (s : State) : Prop where
  places : ∀ f, s.places f = 1
  inUse : ∀ h, s.inUse.get h = (s.tally fun r => r.fillsFor h) + (s.delivery.get h).length
  within : ∀ h, s.inUse.get h ≤ s.allowance.get h
  allowance : s.allowance.h0 + s.allowance.h1 + s.allowance.h2 = 48

theorem State.ledger_iff (s : State) : s.Ledger ↔ s.PlacesSound ∧ s.CountsSound := by
  rw [State.placesSound_iff]
  unfold State.CountsSound
  simp only [State.fillFrames_length]
  exact ⟨fun h => ⟨h.places, fun k => ⟨h.inUse k, h.within k⟩, h.allowance⟩,
    fun ⟨hp, hc, ha⟩ => ⟨hp, fun k => (hc k).1, fun k => (hc k).2, ha⟩⟩

/-- A step in which at most one job's holding changes: what leaves one place enters another. -/
theorem State.Ledger.update {s t : State} (h : s.Ledger) {j : JobId}
    (hothers : ∀ k, k ≠ j → (t.job k).fillFrame = (s.job k).fillFrame ∧
      ((s.job k).fillFrame.isSome = true → (t.job k).owner = (s.job k).owner))
    (hplaces : ∀ f, t.pool.count f + (t.job j).fills f + deliveredCount t.delivery f =
      s.pool.count f + (s.job j).fills f + deliveredCount s.delivery f)
    (hcounts : ∀ k, t.inUse.get k + ((s.job j).fillsFor k + (s.delivery.get k).length) =
      s.inUse.get k + ((t.job j).fillsFor k + (t.delivery.get k).length))
    (hallowance : t.allowance = s.allowance) (hwithin : ∀ k, t.inUse.get k ≤ s.allowance.get k) : t.Ledger := by
  have hfor (k : JobId) (hk : k ≠ j) (h : HostId) : (t.job k).fillsFor h = (s.job k).fillsFor h := by
    obtain ⟨hfill, howner⟩ := hothers k hk
    unfold Job.fillsFor
    rw [hfill]
    cases hf : (s.job k).fillFrame with
    | none => simp
    | some f => rw [howner (by simp [hf])]
  refine ⟨fun f => ?_, fun k => ?_, fun k => by rw [hallowance]; exact hwithin k, by rw [hallowance]; exact h.allowance⟩
  · have hs := h.places f
    have ht := hplaces f
    unfold State.places at hs ⊢
    rw [State.tally_eq _ j] at hs ⊢
    rw [State.tallyBut_congr (s := s) (t := t) fun k hk => by rw [Job.fills, (hothers k hk).1]; rfl]
    omega
  · have hs := h.inUse k
    have ht := hcounts k
    rw [State.tally_eq _ j] at hs ⊢
    rw [State.tallyBut_congr (s := s) (t := t) fun i hi => hfor i hi k]
    omega

theorem Job.fills_of_eq {r : Job} {f : FrameId} (h : r.fillFrame = some f) : r.fills f = 1 := by simp [Job.fills, h]

section Ledger
variable {s : State} (h : s.Ledger) {f : FrameId}
include h

/-- A frame in the pool is nobody's fill frame and in no delivery queue. -/
theorem State.Ledger.of_pool (hf : f ∈ s.pool) :
    (∀ j, (s.job j).fillFrame ≠ some f) ∧ ∀ k, f ∉ s.delivery.get k := by
  have hplaces := h.places f
  have hpool := List.count_pos_iff.2 hf
  unfold State.places at hplaces
  refine ⟨fun j hj => ?_, fun k hk => ?_⟩
  · rw [State.tally_eq _ j, Job.fills_of_eq hj] at hplaces
    omega
  · have := List.count_pos_iff.2 hk
    have := le_deliveredCount s.delivery k f
    omega

/-- A fill frame is one job's alone, and stands nowhere else. -/
theorem State.Ledger.of_fill {j : JobId} (hf : (s.job j).fillFrame = some f) :
    f ∉ s.pool ∧ (∀ k, (s.job k).fillFrame = some f → k = j) ∧ ∀ k, f ∉ s.delivery.get k := by
  have hplaces := h.places f
  unfold State.places at hplaces
  rw [State.tally_eq _ j, Job.fills_of_eq hf] at hplaces
  refine ⟨fun hp => ?_, fun k hk => ?_, fun k hk => ?_⟩
  · have := List.count_pos_iff.2 hp
    omega
  · by_contra hne
    have := s.le_tallyBut hne fun r => r.fills f
    rw [Job.fills_of_eq hk] at this
    omega
  · have := List.count_pos_iff.2 hk
    have := le_deliveredCount s.delivery k f
    omega

/-- A frame in a delivery queue stands there once, and nowhere else. -/
theorem State.Ledger.of_delivery {k : HostId} (hf : f ∈ s.delivery.get k) :
    f ∉ s.pool ∧ (∀ j, (s.job j).fillFrame ≠ some f) ∧ (s.delivery.get k).count f = 1 ∧
    ∀ i, f ∈ s.delivery.get i → i = k := by
  have hplaces := h.places f
  have hpos := List.count_pos_iff.2 hf
  have hle := le_deliveredCount s.delivery k f
  unfold State.places at hplaces
  refine ⟨fun hp => ?_, fun j hj => ?_, by omega, fun i hi => ?_⟩
  · have := List.count_pos_iff.2 hp
    omega
  · rw [State.tally_eq _ j, Job.fills_of_eq hj] at hplaces
    omega
  · have hposi := List.count_pos_iff.2 hi
    by_contra hne
    have := add_le_deliveredCount s.delivery hne f
    omega

end Ledger

/-! ## Frame records, frame by frame (R53, R54, R55, R64) -/

/-- Every valid sample stands in the slot of its step (R55). -/
def Frame.InOrder (x : Frame) : Prop := ∀ k : Fin 16, (x.samples.at k).valid = true → (x.samples.at k).step = k.val

/-- A frame that a job with this record fills, for a sequence of so many steps: valid samples below its next step. -/
structure Frame.FillsFor (x : Frame) (j : JobId) (r : Job) (steps : Nat) : Prop where
  state : x.state = .filling
  job : x.job = j
  owner : x.owner = r.owner
  sampleCount : x.sampleCount = steps
  valid : ∀ k : Fin 16, (x.samples.at k).valid = decide (k.val < r.nextStep)

/-- A finished frame of a host, with a valid sample for every step. -/
structure Frame.CompleteFor (x : Frame) (h : HostId) : Prop where
  state : x.state = .complete
  owner : x.owner = h
  valid : ∀ k : Fin 16, (x.samples.at k).valid = decide (k.val < x.sampleCount)

/-- A frame record agrees with the frame's place. -/
structure State.FrameSound (s : State) (f : FrameId) : Prop where
  free : f ∈ s.pool → (s.frames.at f).state = .free
  filling : ∀ j, (s.job j).fillFrame = some f → (s.frames.at f).FillsFor j (s.job j) (s.seqOf j).steps.length
  complete : ∀ h, f ∈ s.delivery.get h → (s.frames.at f).CompleteFor h
  inOrder : (s.frames.at f).InOrder

theorem State.framesSound_iff (s : State) : (∀ f, s.FrameSound f) ↔ s.FrameRecordsSound ∧ s.SamplesSound := by
  constructor
  · intro h
    refine ⟨⟨fun f => (h f).free, fun j f hf => ?_, fun k f hf => ?_⟩, fun j f hf => ?_, fun k f hf => ?_,
      fun f => (h f).inOrder⟩
    · obtain ⟨hstate, hjob, howner, hcount, _⟩ := (h f).filling j hf
      exact ⟨hstate, hjob, howner, hcount⟩
    · obtain ⟨hstate, howner, _⟩ := (h f).complete k hf
      exact ⟨hstate, howner⟩
    · exact ((h f).filling j hf).valid
    · exact ((h f).complete k hf).valid
  · rintro ⟨⟨hpool, hfill, hdelivery⟩, hvalid, hcomplete, horder⟩ f
    refine ⟨hpool f, fun j hf => ?_, fun k hf => ?_, horder f⟩
    · obtain ⟨hstate, hjob, howner, hcount⟩ := hfill j f hf
      exact ⟨hstate, hjob, howner, hcount, hvalid j f hf⟩
    · obtain ⟨hstate, howner⟩ := hdelivery k f hf
      exact ⟨hstate, howner, hcomplete k f hf⟩

/-- A record that is unchanged, of a frame that enters no new place, whose job's progress is unchanged. -/
theorem State.FrameSound.congr {s t : State} {f : FrameId} (h : s.FrameSound f) (hframe : t.frames.at f = s.frames.at f)
    (hpool : f ∈ t.pool → f ∈ s.pool)
    (hfill : ∀ j, (t.job j).fillFrame = some f → (s.job j).fillFrame = some f ∧ (t.job j).owner = (s.job j).owner ∧
      (t.job j).nextStep = (s.job j).nextStep ∧ (t.seqOf j).steps = (s.seqOf j).steps)
    (hdelivery : ∀ k, f ∈ t.delivery.get k → f ∈ s.delivery.get k) : t.FrameSound f := by
  refine ⟨fun hf => ?_, fun j hf => ?_, fun k hf => ?_, ?_⟩ <;> rw [hframe]
  · exact h.free (hpool hf)
  · obtain ⟨hs, howner, hnext, hsteps⟩ := hfill j hf
    obtain ⟨hstate, hjob, hown, hcount, hvalid⟩ := h.filling j hs
    exact ⟨hstate, hjob, by rw [howner]; exact hown, by rw [hsteps]; exact hcount, by rw [hnext]; exact hvalid⟩
  · exact h.complete k (hdelivery k hf)
  · exact h.inOrder

/-- A frame stands in one place, so its record is judged by that place alone. -/
theorem State.Ledger.frameSound_of_pool {t : State} (h : t.Ledger) {f : FrameId} (hf : f ∈ t.pool)
    (hframe : t.frames.at f = Frame.free) : t.FrameSound f := by
  obtain ⟨hfill, hdelivery⟩ := h.of_pool hf
  refine ⟨fun _ => by rw [hframe]; rfl, fun j hj => absurd hj (hfill j), fun k hk => absurd hk (hdelivery k),
    fun k hk => ?_⟩
  simp [hframe, Frame.free, Sample.empty] at hk

theorem State.Ledger.frameSound_of_fill {t : State} (h : t.Ledger) {f : FrameId} {j : JobId}
    (hf : (t.job j).fillFrame = some f) (hframe : (t.frames.at f).FillsFor j (t.job j) (t.seqOf j).steps.length)
    (horder : (t.frames.at f).InOrder) : t.FrameSound f := by
  obtain ⟨hpool, hfill, hdelivery⟩ := h.of_fill hf
  refine ⟨fun hp => absurd hp hpool, fun k hk => ?_, fun k hk => absurd hk (hdelivery k), horder⟩
  rw [hfill k hk]
  exact hframe

theorem State.Ledger.frameSound_of_delivery {t : State} (h : t.Ledger) {f : FrameId} {k : HostId}
    (hf : f ∈ t.delivery.get k) (hframe : (t.frames.at f).CompleteFor k) (horder : (t.frames.at f).InOrder) :
    t.FrameSound f := by
  obtain ⟨hpool, hfill, _, hdelivery⟩ := h.of_delivery hf
  refine ⟨fun hp => absurd hp hpool, fun j hj => absurd hj (hfill j), fun i hi => ?_, horder⟩
  rw [hdelivery i hi]
  exact hframe

end Sys2Proof.Machine

namespace Sys2Proof.Machine

/-! ## What the holders of a frame hold (Table 1-2, R53, R126, R139, R141)

`State.HoldingsSound` says what a job holds by its state. It is taken apart into what goes with a fill frame, whatever the
job's state, and the agreement of the fill frame with the state; a run that ends gives up the first before its state
changes. -/

/-- One group record: a HELD group has no foreign occupant, a PENDING one waits for one (R138, R141, R145). -/
structure State.HoldSound (s : State) (g : GroupId) : Prop where
  lease : (s.groups.at g).state ≠ .free → 1 ≤ (s.groups.at g).lease ∧ (s.groups.at g).lease ≤ 255
  held : (s.groups.at g).state = .held →
    ∀ k : JobId, (s.groups.at g).occupants.at k = true → (s.job k).owner = (s.groups.at g).host
  pending : (s.groups.at g).state = .pending →
    ∃ k : JobId, (s.groups.at g).occupants.at k = true ∧ (s.job k).owner ≠ (s.groups.at g).host

theorem State.foreignOccupants_pos_iff (s : State) (g : GroupId) (h : HostId) :
    0 < s.foreignOccupants g h ↔ ∃ k : JobId, (s.groups.at g).occupants.at k = true ∧ (s.job k).owner ≠ h := by
  rw [Nat.pos_iff_ne_zero, ne_eq, State.foreignOccupants_eq_zero_iff]
  simp

theorem State.holdsSound_iff (s : State) : s.HoldsSound ↔ ∀ g, s.HoldSound g := by
  unfold State.HoldsSound
  refine forall_congr' fun g => ?_
  rw [State.foreignOccupants_eq_zero_iff, State.foreignOccupants_pos_iff]
  exact ⟨fun ⟨hl, hh, hp⟩ => ⟨hl, hh, hp⟩, fun h => ⟨h.lease, h.held, h.pending⟩⟩

/-- Every job that has a fill frame, and no other, has its transient claim and its place among the occupants; frames,
counts and holds are sound. -/
structure State.Stocked (s : State) : Prop where
  ledger : s.Ledger
  frames : ∀ f, s.FrameSound f
  claims : ∀ j, s.exc.transient.at j = if (s.job j).fillFrame.isSome then some (s.seqOf j).minimum else none
  marks : ∀ j g, (s.groups.at g).occupants.at j =
    ((s.job j).cls == .routine && (s.job j).fillFrame.isSome && (s.seqOf j).touches g)
  holds : ∀ g, s.HoldSound g

/-- A job has a fill frame exactly in the states that hold one (Table 1-2). -/
def Job.Aligned (r : Job) : Prop := r.fillFrame.isSome = r.state.dispatched

theorem State.resources_iff (s : State) :
    (s.Resourced ∧ s.SamplesSound ∧ s.HoldsSound) ↔ s.Stocked ∧ ∀ j, (s.job j).Aligned := by
  have hframes := s.framesSound_iff
  have hledger := s.ledger_iff
  have hholds := s.holdsSound_iff
  constructor
  · rintro ⟨⟨hplaces, hrecords, hcounts, hholdings⟩, hsamples, hhold⟩
    refine ⟨⟨hledger.2 ⟨hplaces, hcounts⟩, hframes.2 ⟨hrecords, hsamples⟩, fun j => ?_, fun j g => ?_, hholds.1 hhold⟩,
      fun j => (hholdings j).1⟩
    · obtain ⟨hfill, hclaim, _⟩ := hholdings j
      rw [hclaim, hfill]
    · obtain ⟨hfill, _, hmark⟩ := hholdings j
      rw [hmark g, hfill]
  · rintro ⟨⟨hl, hf, hclaims, hmarks, hh⟩, haligned⟩
    obtain ⟨hrecords, hsamples⟩ := hframes.1 hf
    obtain ⟨hplaces, hcounts⟩ := hledger.1 hl
    refine ⟨⟨hplaces, hrecords, hcounts, fun j => ⟨haligned j, ?_, fun g => ?_⟩⟩, hsamples, hholds.2 hh⟩
    · rw [hclaims j, haligned j]
    · rw [hmarks j g, haligned j]

theorem State.Stocked.fill_of_occupant {s : State} (h : s.Stocked) {j : JobId} {g : GroupId}
    (ho : (s.groups.at g).occupants.at j = true) : (s.job j).fillFrame.isSome = true := by
  rw [h.marks j g] at ho
  simp only [Bool.and_eq_true] at ho
  exact ho.1.2

/-! ### What the holders see -/

/-- Two states with the same frames, groups and transient claims, whose jobs hold the same fill frames, and in which the
holders of a frame are of the same host, class, progress and sequence. -/
structure State.SameStock (s t : State) : Prop where
  frames : t.frames = s.frames
  pool : t.pool = s.pool
  allowance : t.allowance = s.allowance
  inUse : t.inUse = s.inUse
  delivery : t.delivery = s.delivery
  groups : t.groups = s.groups
  transient : t.exc.transient = s.exc.transient
  fill : ∀ k, (t.job k).fillFrame = (s.job k).fillFrame
  holder : ∀ k, (s.job k).fillFrame.isSome = true → (t.job k).owner = (s.job k).owner ∧ (t.job k).cls = (s.job k).cls ∧
    (t.job k).nextStep = (s.job k).nextStep ∧ (t.seqOf k).steps = (s.seqOf k).steps ∧
    (t.seqOf k).minimum = (s.seqOf k).minimum

theorem Seq.touches_congr {q q' : Seq} (h : q'.steps = q.steps) (g : GroupId) : q'.touches g = q.touches g := by
  unfold Seq.touches
  rw [h]

theorem State.SameStock.stocked {s t : State} (h : s.SameStock t) (hs : s.Stocked) : t.Stocked := by
  refine ⟨hs.ledger.update (j := 0) (fun k _ => ⟨h.fill k, fun hk => (h.holder k hk).1⟩) (fun f => ?_) (fun k => ?_)
    h.allowance (fun k => by rw [h.inUse]; exact hs.ledger.within k), fun f => ?_, fun j => ?_, fun j g => ?_, fun g => ?_⟩
  · rw [h.pool, h.delivery, Job.fills, h.fill]
    rfl
  · have hfor : (t.job 0).fillsFor k = (s.job 0).fillsFor k := by
      unfold Job.fillsFor
      rw [h.fill]
      cases hf : (s.job 0).fillFrame with
      | none => simp
      | some f => rw [(h.holder 0 (by simp [hf])).1]
    rw [h.inUse, h.delivery, hfor]
  · refine (hs.frames f).congr (by rw [h.frames]) (by rw [h.pool]; exact id) (fun j hj => ?_)
      fun k => by rw [h.delivery]; exact id
    rw [h.fill] at hj
    obtain ⟨howner, _, hnext, hsteps, _⟩ := h.holder j (by simp [hj])
    exact ⟨hj, howner, hnext, hsteps⟩
  · rw [h.transient, hs.claims j, h.fill]
    split
    · rename_i hf
      obtain ⟨_, _, _, _, hmin⟩ := h.holder j hf
      rw [hmin]
    · rfl
  · rw [h.groups, hs.marks j g, h.fill]
    cases hf : (s.job j).fillFrame.isSome with
    | false => simp
    | true =>
      obtain ⟨_, hcls, _, hsteps, _⟩ := h.holder j hf
      rw [hcls, Seq.touches_congr hsteps]
  · have howner (k : JobId) (hk : (s.groups.at g).occupants.at k = true) : (t.job k).owner = (s.job k).owner :=
      (h.holder k (hs.fill_of_occupant hk)).1
    obtain ⟨hlease, hheld, hpending⟩ := hs.holds g
    refine ⟨?_, fun hst k hk => ?_, fun hst => ?_⟩ <;> rw [h.groups] at *
    · exact hlease
    · rw [howner k hk]
      exact hheld hst k hk
    · obtain ⟨k, hk, hne⟩ := hpending hst
      exact ⟨k, hk, by rwa [howner k hk]⟩

theorem State.SameStock.refl (s : State) : s.SameStock s :=
  ⟨rfl, rfl, rfl, rfl, rfl, rfl, rfl, fun _ => rfl, fun _ _ => ⟨rfl, rfl, rfl, rfl, rfl⟩⟩

/-- The engine, the windows and the event queues are beside the stock. -/
theorem State.sameStock_beside (s : State) (e : Engine) (windows : PerHost (Table Window 4)) (events : PerHost EventQueue) :
    s.SameStock { s with engine := e, windows := windows, events := events } :=
  ⟨rfl, rfl, rfl, rfl, rfl, rfl, rfl, fun _ => rfl, fun _ _ => ⟨rfl, rfl, rfl, rfl, rfl⟩⟩

/-! ### A group record changes (R140 to R144) -/

/-- A group record is rewritten, with its occupants kept. -/
theorem State.Stocked.setGroup {s : State} (h : s.Stocked) {g : GroupId} {r : Group}
    (hocc : r.occupants = (s.groups.at g).occupants) (hlease : r.state ≠ .free → 1 ≤ r.lease ∧ r.lease ≤ 255)
    (hheld : r.state = .held → s.foreignOccupants g r.host = 0)
    (hpending : r.state = .pending → 0 < s.foreignOccupants g r.host) : (s.setGroup g r).Stocked := by
  have hoccupants (i : GroupId) : ((s.setGroup g r).groups.at i).occupants = (s.groups.at i).occupants := by
    rw [State.setGroup_groups, Table.at_put]
    split
    · subst i
      exact hocc
    · rfl
  refine ⟨⟨h.ledger.places, h.ledger.inUse, h.ledger.within, h.ledger.allowance⟩,
    fun f => (h.frames f).congr rfl id (fun _ hj => ⟨hj, rfl, rfl, rfl⟩) fun _ => id, h.claims,
    fun j i => by rw [hoccupants]; exact h.marks j i, fun i => ?_⟩
  by_cases hi : i = g
  · subst hi
    rw [State.foreignOccupants_eq_zero_iff] at hheld
    rw [State.foreignOccupants_pos_iff] at hpending
    refine ⟨?_, ?_, ?_⟩ <;> rw [State.setGroup_groups, Table.at_put_same]
    · exact hlease
    · rw [hocc]
      exact hheld
    · rw [hocc]
      exact hpending
  · obtain ⟨hl, hh, hp⟩ := h.holds i
    refine ⟨?_, ?_, ?_⟩ <;> rw [State.setGroup_groups, Table.at_put_of_ne _ _ hi]
    · exact hl
    · exact hh
    · exact hp

/-! ### A run gives up what it holds (R13, R16, R17, R18, R71) -/

/-- A state in which a job has given up its frame and its claim, and still stands in its groups. -/
structure State.GivenUp (s : State) (j : JobId) (u : State) : Prop where
  ledger : u.Ledger
  frames : ∀ f, u.FrameSound f
  fill : (u.job j).fillFrame = none
  record : (u.job j).cls = (s.job j).cls ∧ (u.job j).seq = (s.job j).seq
  others : ∀ k, k ≠ j → u.job k = s.job k
  seqs : u.seqs = s.seqs
  groups : u.groups = s.groups
  transient : u.exc.transient = s.exc.transient.put j none

theorem State.GivenUp.touches {s u : State} {j : JobId} (hu : s.GivenUp j u) (g : GroupId) :
    (u.seqOf j).touches g = (s.seqOf j).touches g := by
  rw [State.seqOf, hu.seqs, hu.record.2]
  rfl

/-- The occupants that a job leaves behind are the others. -/
theorem State.Stocked.occupant_left_iff {s u : State} {j : JobId} (h : s.Stocked) (hu : s.GivenUp j u) (g : GroupId)
    (k : JobId) : (u.groupWithout j g).occupants.at k = true ↔ k ≠ j ∧ (s.groups.at g).occupants.at k = true := by
  rw [u.groupWithout_occupant_iff, hu.groups, hu.record.1, hu.touches]
  constructor
  · rintro ⟨hk, hn⟩
    refine ⟨?_, hk⟩
    rintro rfl
    rw [h.marks k g] at hk
    simp only [Bool.and_eq_true, beq_iff_eq] at hk
    exact hn ⟨rfl, hk.1.1, hk.2⟩
  · exact fun ⟨hne, hk⟩ => ⟨hk, fun hj => hne hj.1⟩

/-- A job that leaves its groups leaves no hold behind that waited for it alone (R139, R141). -/
theorem State.Stocked.holdSound_vacate {s u : State} {j : JobId} (h : s.Stocked) (hu : s.GivenUp j u) (g : GroupId) :
    (u.vacate j).HoldSound g := by
  obtain ⟨hlease, hheld, hpending⟩ := h.holds g
  obtain ⟨hstate, hhost, hl, _⟩ := u.groupWithout_fields j g
  have hocc := h.occupant_left_iff hu g
  rw [hu.groups] at hstate hhost hl
  by_cases hw : u.WaitedFor j g
  · have hgroup := (u.vacate_group j g).1 hw
    obtain ⟨_, _, _, hp, hall⟩ := hw
    rw [hu.groups] at hp hall
    refine ⟨?_, fun _ k hk => ?_, ?_⟩ <;> rw [hgroup] at *
    · exact fun _ => by rw [hl]; exact hlease (by simp [hp])
    · obtain ⟨hne, hk⟩ := (hocc k).1 hk
      rw [State.vacate_job, hhost]
      exact hall k hne hk
    · simp
  · have hgroup := (u.vacate_group j g).2 hw
    refine ⟨?_, fun hst k hk => ?_, fun hst => ?_⟩ <;> rw [hgroup] at *
    · rw [hstate, hl]
      exact hlease
    · obtain ⟨hne, hk⟩ := (hocc k).1 hk
      rw [State.vacate_job, hu.others k hne, hhost]
      exact hheld (hstate ▸ hst) k hk
    · rw [hstate] at hst
      obtain ⟨k, hk, hforeign⟩ := hpending hst
      have hother : ∃ i, i ≠ j ∧ (s.groups.at g).occupants.at i = true ∧ (s.job i).owner ≠ (s.groups.at g).host := by
        by_contra hnone
        have hkj : k = j := by_contra fun hne => hnone ⟨k, hne, hk, hforeign⟩
        subst hkj
        have hmark := h.marks k g
        rw [hk, eq_comm] at hmark
        simp only [Bool.and_eq_true, beq_iff_eq] at hmark
        refine hw ⟨hu.record.1.trans hmark.1.1, (hu.touches g).trans hmark.2, by rw [hu.groups]; exact hk,
          by rw [hu.groups]; exact hst, fun i hi hoc => ?_⟩
        rw [hu.groups] at hoc ⊢
        rw [hu.others i hi]
        exact by_contra fun hne => hnone ⟨i, hi, hoc, hne⟩
      obtain ⟨i, hi, hoc, hne⟩ := hother
      exact ⟨i, (hocc i).2 ⟨hi, hoc⟩, by rw [State.vacate_job, hu.others i hi, hhost]; exact hne⟩

theorem State.Stocked.vacate {s u : State} {j : JobId} (h : s.Stocked) (hu : s.GivenUp j u) : (u.vacate j).Stocked := by
  have hacted := u.vacate_holdsActed j
  have hseq (k : JobId) : (u.vacate j).seqOf k = u.seqOf k := by
    rw [hacted]
    rfl
  have hothers (k : JobId) (hk : k ≠ j) : u.seqOf k = s.seqOf k := by
    rw [State.seqOf, hu.seqs, hu.others k hk]
    rfl
  refine ⟨?_, fun f => (hu.frames f).congr ?_ ?_ (fun k hk => ?_) fun k => ?_, fun k => ?_, fun k g => ?_,
    h.holdSound_vacate hu⟩
  · rw [hacted]
    exact ⟨hu.ledger.places, hu.ledger.inUse, hu.ledger.within, hu.ledger.allowance⟩
  · rw [hacted]
  · rw [hacted]
    exact id
  · rw [State.vacate_job] at hk ⊢
    exact ⟨hk, rfl, rfl, by rw [hseq]⟩
  · rw [hacted]
    exact id
  · have hexc : (u.vacate j).exc = u.exc := by rw [hacted]
    rw [hexc, hu.transient, State.vacate_job, hseq, Table.at_put]
    split
    · subst k
      rw [hu.fill]
      rfl
    · rw [h.claims k, hu.others k ‹_›, hothers k ‹_›]
  · have hoccupant : ((u.vacate j).groups.at g).occupants = (u.groupWithout j g).occupants := by
      by_cases hw : u.WaitedFor j g
      · rw [(u.vacate_group j g).1 hw]
      · rw [(u.vacate_group j g).2 hw]
    rw [hoccupant, State.vacate_job, hseq, Bool.eq_iff_iff, h.occupant_left_iff hu]
    by_cases hk : k = j
    · subst hk
      simp [hu.fill]
    · rw [h.marks k g, hu.others k hk, hothers k hk]
      simp [hk]

/-- A frame given back at the end of a run, with the claim (R71, R128). -/
theorem State.Stocked.runGivenBack {s : State} (h : s.Stocked) (j : JobId) : s.GivenUp j (s.runGivenBack j) := by
  have hjob (k : JobId) : (s.runGivenBack j).job k =
      if k = j then { s.job j with fillFrame := none, deadlineTimer := none } else s.job k := Table.at_put ..
  have hself := (hjob j).trans (if_pos rfl)
  have hothers (k : JobId) (hk : k ≠ j) : (s.runGivenBack j).job k = s.job k := (hjob k).trans (if_neg hk)
  have hpool : (s.runGivenBack j).pool = s.pool ++ (s.job j).fillFrame.toList := rfl
  have hframes : (s.runGivenBack j).frames = freedFrames s.frames (s.job j).fillFrame.toList := rfl
  have hinUse (k : HostId) : (s.runGivenBack j).inUse.get k = s.inUse.get k - (s.job j).fillsFor k := by
    change (s.inUse.put (s.job j).owner (s.inUse.get (s.job j).owner - _)).get k = _
    rw [PerHost.get_put, Job.fillsFor]
    split
    · subst k
      rw [if_pos rfl]
    · rw [if_neg (Ne.symm ‹_›), Nat.sub_zero]
  have hledger : (s.runGivenBack j).Ledger := by
    have hle (k : HostId) : (s.job j).fillsFor k ≤ s.inUse.get k := by
      have := h.ledger.inUse k
      rw [State.tally_eq _ j] at this
      omega
    refine h.ledger.update (j := j) (fun k hk => by rw [hothers k hk]; exact ⟨rfl, fun _ => rfl⟩) (fun f => ?_)
      (fun k => ?_) rfl fun k => ?_
    · rw [hpool, hself, List.count_append]
      change _ + (s.job j).fills f + 0 + _ = _
      rfl
    · have hnone : ((s.runGivenBack j).job j).fillsFor k = 0 := by simp [hself, Job.fillsFor]
      have := hle k
      rw [hinUse, hnone]
      change _ + (_ + (s.delivery.get k).length) = _ + (0 + (s.delivery.get k).length)
      omega
    · have := h.ledger.within k
      rw [hinUse]
      omega
  refine ⟨hledger, fun f => ?_, by rw [hself], by rw [hself]; exact ⟨rfl, rfl⟩, hothers, rfl, rfl, ?_⟩
  · by_cases hf : f ∈ (s.job j).fillFrame.toList
    · refine hledger.frameSound_of_pool (by rw [hpool]; exact List.mem_append_right _ hf) ?_
      rw [hframes, freedFrames_at, if_pos hf]
    · refine (h.frames f).congr ?_ ?_ (fun k hk => ?_) fun k => id
      · rw [hframes, freedFrames_at, if_neg hf]
      · rw [hpool, List.mem_append]
        exact fun hp => hp.resolve_right hf
      · have hne : k ≠ j := by
          rintro rfl
          rw [hself] at hk
          cases hk
        rw [hothers k hne] at hk
        refine ⟨hk, ?_, ?_, ?_⟩
        · rw [hothers k hne]
        · rw [hothers k hne]
        · rw [State.seqOf, hothers k hne]
          rfl
  · exact Excitation.recompute_transient ..

theorem State.Stocked.releaseRun {s : State} (h : s.Stocked) (j : JobId) : (s.releaseRun j).Stocked := by
  rw [State.releaseRun_eq]
  exact h.vacate (h.runGivenBack j)

theorem Frame.FillsFor.finish {x : Frame} {j : JobId} {r : Job} {n : Nat} (h : x.FillsFor j r n) (hn : r.nextStep = n) :
    (x.finish r).CompleteFor r.owner :=
  ⟨rfl, h.owner, fun k => (h.valid k).trans (by rw [hn]; exact congrArg (decide <| k.val < ·) h.sampleCount.symm)⟩

/-- The state once a completed run has delivered its frame, and given up its claim and its deadline timer. -/
def State.runDelivered (s : State) (j : JobId) (f : FrameId) : State :=
  { s with
    jobs := s.jobs.put j { s.job j with fillFrame := none, deadlineTimer := none }
    frames := s.frames.put f ((s.frames.at f).finish (s.job j))
    delivery := s.delivery.put (s.job j).owner (s.delivery.get (s.job j).owner ++ [f])
    exc := s.excWithout j
    events := s.events.put (s.job j).owner
      ((s.events.get (s.job j).owner).push ⟨s.timeBase, some j, some f, .runComplete (s.job j).runNumber⟩) }

theorem State.deliver_eq {s : State} {j : JobId} {f : FrameId} (hf : (s.job j).fillFrame = some f) :
    ((s.deliver j).removeClaim j).cancelDeadline j = s.runDelivered j f := by
  unfold State.deliver
  dsimp only
  rw [hf]
  simp [State.runDelivered, State.removeClaim, State.cancelDeadline, State.setTransient, State.setJob, State.job,
    State.excWithout, State.emit, State.setFrame]

/-- A finished frame given to the delivery queue, with the claim removed (R13, R65). -/
theorem State.Stocked.runDelivered {s : State} (h : s.Stocked) {j : JobId} {f : FrameId}
    (hf : (s.job j).fillFrame = some f) (hnext : (s.job j).nextStep = (s.seqOf j).steps.length) :
    s.GivenUp j (s.runDelivered j f) := by
  have hjob (k : JobId) : (s.runDelivered j f).job k =
      if k = j then { s.job j with fillFrame := none, deadlineTimer := none } else s.job k := Table.at_put ..
  have hself := (hjob j).trans (if_pos rfl)
  have hothers (k : JobId) (hk : k ≠ j) : (s.runDelivered j f).job k = s.job k := (hjob k).trans (if_neg hk)
  have hdelivery : (s.runDelivered j f).delivery =
      s.delivery.put (s.job j).owner (s.delivery.get (s.job j).owner ++ [f]) := rfl
  have hframes : (s.runDelivered j f).frames = s.frames.put f ((s.frames.at f).finish (s.job j)) := rfl
  have hledger : (s.runDelivered j f).Ledger := by
    refine h.ledger.update (j := j) (fun k hk => by rw [hothers k hk]; exact ⟨rfl, fun _ => rfl⟩) (fun i => ?_)
      (fun k => ?_) rfl h.ledger.within
    · have := deliveredCount_put s.delivery (s.job j).owner (s.delivery.get (s.job j).owner ++ [f]) i
      rw [List.count_append] at this
      rw [hdelivery, hself]
      simp only [Job.fills, hf, Option.toList_none, Option.toList_some, List.count_nil]
      change s.pool.count i + 0 + _ = _
      omega
    · change s.inUse.get k + _ = s.inUse.get k + _
      rw [hdelivery, hself, PerHost.get_put]
      simp only [Job.fillsFor, hf, Option.toList_none, Option.toList_some, List.length_nil, List.length_singleton]
      by_cases hk : k = (s.job j).owner
      · subst hk
        simp [Nat.add_comm]
      · simp [hk, Ne.symm hk]
  refine ⟨hledger, fun i => ?_, by rw [hself], by rw [hself]; exact ⟨rfl, rfl⟩, hothers, rfl, rfl, ?_⟩
  · by_cases hi : i = f
    · subst hi
      refine hledger.frameSound_of_delivery (k := (s.job j).owner) (by simp [hdelivery]) ?_ ?_ <;>
        rw [hframes, Table.at_put_same]
      · exact ((h.frames i).filling j hf).finish hnext
      · exact (h.frames i).inOrder
    · refine (h.frames i).congr (by rw [hframes, Table.at_put_of_ne _ _ hi]) id (fun k hk => ?_) fun k => ?_
      · have hne : k ≠ j := by
          rintro rfl
          rw [hself] at hk
          cases hk
        rw [hothers k hne] at hk
        refine ⟨hk, ?_, ?_, ?_⟩
        · rw [hothers k hne]
        · rw [hothers k hne]
        · rw [State.seqOf, hothers k hne]
          rfl
      · rw [hdelivery, PerHost.get_put]
        split
        · subst k
          simp [hi]
        · exact id
  · exact Excitation.recompute_transient ..

/-! ### A run takes up what it holds (R7, R58, R60, R126, R139) -/

/-- A state in which a job has taken up a fresh frame, its claim and its places among the occupants. -/
structure State.TakenUp (s : State) (j : JobId) (f : FrameId) (u : State) : Prop where
  ledger : u.Ledger
  pool : ∀ i ∈ u.pool, i ∈ s.pool
  delivery : ∀ k, ∀ i ∈ u.delivery.get k, i ∈ s.delivery.get k
  frames : u.frames = s.frames.put f (s.newFrame j)
  fill : (u.job j).fillFrame = some f
  nextStep : (u.job j).nextStep = 0
  record : (u.job j).owner = (s.job j).owner ∧ (u.job j).cls = (s.job j).cls ∧ (u.job j).seq = (s.job j).seq
  others : ∀ k, k ≠ j → u.job k = s.job k
  seqs : u.seqs = s.seqs
  transient : u.exc.transient = s.exc.transient.put j (some (s.seqOf j).minimum)
  groups : ∀ g, u.groups.at g = if (s.job j).cls = .routine ∧ (s.seqOf j).touches g = true then
      { s.groups.at g with occupants := (s.groups.at g).occupants.put j true }
    else s.groups.at g

theorem State.newFrame_fillsFor (s : State) {j : JobId} {r : Job} (howner : r.owner = (s.job j).owner)
    (hnext : r.nextStep = 0) : (s.newFrame j).FillsFor j r (s.seqOf j).steps.length := by
  refine ⟨rfl, rfl, howner.symm, rfl, fun k => ?_⟩
  rw [hnext]
  exact congrArg Sample.valid (Table.at_replicate ..)

theorem State.newFrame_inOrder (s : State) (j : JobId) : (s.newFrame j).InOrder := by
  intro k hk
  have hempty : (s.newFrame j).samples.at k = Sample.empty := Table.at_replicate ..
  rw [hempty] at hk
  cases hk

/-- An eligible entry takes no place that a hold keeps from it (R27, R139). -/
theorem State.Stocked.holdSound_takenUp {s u : State} {j : JobId} {f : FrameId} (h : s.Stocked) (hu : s.TakenUp j f u)
    (hheldBack : s.heldBack j = false) (g : GroupId) : u.HoldSound g := by
  obtain ⟨hlease, hheld, hpending⟩ := h.holds g
  have howner (k : JobId) : (u.job k).owner = (s.job k).owner := by
    by_cases hk : k = j
    · rw [hk, hu.record.1]
    · rw [hu.others k hk]
  by_cases hc : (s.job j).cls = .routine ∧ (s.seqOf j).touches g = true
  · have hgroup := (hu.groups g).trans (if_pos hc)
    have hallowed : ¬ ((s.groups.at g).host ≠ (s.job j).owner ∧ (s.groups.at g).state = .held) := fun hn => by
      have := (s.heldBack_iff j).2 ⟨hc.1, g, hc.2, hn.1, .inl hn.2⟩
      simp [hheldBack] at this
    refine ⟨?_, fun hst k hk => ?_, fun hst => ?_⟩ <;> rw [hgroup] at *
    · exact hlease
    · rw [howner]
      dsimp only at hk
      rw [Table.at_put] at hk
      split at hk
      · subst k
        exact by_contra fun hne => hallowed ⟨Ne.symm hne, hst⟩
      · exact hheld hst k hk
    · obtain ⟨k, hk, hne⟩ := hpending hst
      refine ⟨k, ?_, by rwa [howner]⟩
      dsimp only
      rw [Table.at_put]
      split
      · rfl
      · exact hk
  · have hgroup := (hu.groups g).trans (if_neg hc)
    refine ⟨?_, fun hst k hk => ?_, fun hst => ?_⟩ <;> rw [hgroup] at *
    · exact hlease
    · rw [howner]
      exact hheld hst k hk
    · obtain ⟨k, hk, hne⟩ := hpending hst
      exact ⟨k, hk, by rwa [howner]⟩

theorem State.Stocked.takenUp {s u : State} {j : JobId} {f : FrameId} (h : s.Stocked) (hu : s.TakenUp j f u)
    (hheldBack : s.heldBack j = false) : u.Stocked := by
  have hseqj : u.seqOf j = s.seqOf j := by rw [State.seqOf, hu.seqs, hu.record.2.2]; rfl
  have hseq (k : JobId) (hk : k ≠ j) : u.seqOf k = s.seqOf k := by rw [State.seqOf, hu.seqs, hu.others k hk]; rfl
  refine ⟨hu.ledger, fun i => ?_, fun k => ?_, fun k g => ?_, h.holdSound_takenUp hu hheldBack⟩
  · by_cases hi : i = f
    · subst hi
      refine hu.ledger.frameSound_of_fill hu.fill ?_ ?_ <;> rw [hu.frames, Table.at_put_same]
      · rw [hseqj]
        exact s.newFrame_fillsFor hu.record.1 hu.nextStep
      · exact s.newFrame_inOrder j
    · refine (h.frames i).congr (by rw [hu.frames, Table.at_put_of_ne _ _ hi]) (hu.pool i) (fun k hk => ?_)
        fun k => hu.delivery k i
      have hne : k ≠ j := by
        rintro rfl
        rw [hu.fill] at hk
        exact hi (Option.some.inj hk).symm
      rw [hu.others k hne] at *
      exact ⟨hk, rfl, rfl, by rw [hseq k hne]⟩
  · rw [hu.transient, Table.at_put]
    split
    · subst k
      rw [hu.fill, hseqj]
      rfl
    · rw [h.claims k, hu.others k ‹_›, hseq k ‹_›]
  · rw [hu.groups g]
    by_cases hk : k = j
    · subst hk
      rw [hu.record.2.1, hu.fill, hseqj]
      split
      · rename_i hc
        simp [hc]
      · rename_i hc
        rw [h.marks k g, Bool.eq_iff_iff]
        simp only [Bool.and_eq_true, beq_iff_eq, Option.isSome_some, and_true]
        exact ⟨fun hm => ⟨hm.1.1, hm.2⟩, fun hm => absurd hm hc⟩
    · rw [hu.others k hk, hseq k hk, ← h.marks k g]
      split
      · exact Table.at_put_of_ne _ _ hk
      · rfl

/-! ### A fill frame is written (R55, R62, R63) -/

/-- A run's frame and its next step change together. -/
theorem State.Stocked.writeFrame {s t : State} (h : s.Stocked) {j : JobId} {f : FrameId} {x : Frame} {n : Nat}
    (hf : (s.job j).fillFrame = some f)
    (ht : ({ s with frames := s.frames.put f x, jobs := s.jobs.put j { s.job j with nextStep := n } } : State).SameStock t)
    (hx : x.FillsFor j { s.job j with nextStep := n } (s.seqOf j).steps.length) (horder : x.InOrder) : t.Stocked := by
  refine ht.stocked ?_
  generalize hu : ({ s with frames := s.frames.put f x, jobs := s.jobs.put j { s.job j with nextStep := n } } : State) = u
  have hjob (k : JobId) : u.job k = if k = j then { s.job j with nextStep := n } else s.job k := by
    rw [← hu]
    exact Table.at_put ..
  have hself := (hjob j).trans (if_pos rfl)
  have hothers (k : JobId) (hk : k ≠ j) : u.job k = s.job k := (hjob k).trans (if_neg hk)
  have hfields (k : JobId) : (u.job k).fillFrame = (s.job k).fillFrame ∧ (u.job k).owner = (s.job k).owner ∧
      (u.job k).cls = (s.job k).cls ∧ u.seqOf k = s.seqOf k := by
    have hseqs : u.seqs = s.seqs := by rw [← hu]
    rw [State.seqOf, hseqs, hjob]
    split
    · subst k
      exact ⟨rfl, rfl, rfl, rfl⟩
    · exact ⟨rfl, rfl, rfl, rfl⟩
  have hledger : u.Ledger := by
    refine h.ledger.update (j := j) (fun k hk => by rw [hothers k hk]; exact ⟨rfl, fun _ => rfl⟩) (fun i => ?_)
      (fun k => ?_) (by rw [← hu]) fun k => by rw [← hu]; exact h.ledger.within k
    · rw [hself, ← hu]
      rfl
    · rw [hself, ← hu]
      rfl
  refine ⟨hledger, fun i => ?_, fun k => ?_, fun k g => ?_, fun g => ?_⟩
  · by_cases hi : i = f
    · subst hi
      refine hledger.frameSound_of_fill (j := j) (by rw [hself]; exact hf) ?_ ?_
      · rw [(hfields j).2.2.2, hself, ← hu, Table.at_put_same]
        exact hx
      · rw [← hu, Table.at_put_same]
        exact horder
    · refine (h.frames i).congr (by rw [← hu]; exact Table.at_put_of_ne _ _ hi) (by rw [← hu]; exact id) (fun k hk => ?_)
        fun k => by rw [← hu]; exact id
      obtain ⟨hfill, howner, _, hseq⟩ := hfields k
      rw [hfill] at hk
      have hne : k ≠ j := by
        rintro rfl
        rw [hf] at hk
        exact hi (Option.some.inj hk).symm
      exact ⟨hk, howner, by rw [hothers k hne], by rw [hseq]⟩
  · obtain ⟨hfill, _, _, hseq⟩ := hfields k
    rw [hfill, hseq, ← hu]
    exact h.claims k
  · obtain ⟨hfill, _, hcls, hseq⟩ := hfields k
    rw [hfill, hseq, hcls, ← hu]
    exact h.marks k g
  · obtain ⟨hlease, hheld, hpending⟩ := h.holds g
    have hgroups : u.groups = s.groups := by rw [← hu]
    refine ⟨?_, ?_, ?_⟩ <;> rw [hgroups]
    · exact hlease
    · simpa only [(hfields _).2.1] using hheld
    · simpa only [(hfields _).2.1] using hpending

/-! ### Frames are fetched and flushed (R67, R68, R72) -/

/-- Frames at the head of a host's delivery queue return to the pool. -/
theorem State.Stocked.returned {s : State} (h : s.Stocked) {k : HostId} {l rest : List FrameId}
    (hl : s.delivery.get k = l ++ rest) :
    ({ s.withReturned k l with delivery := s.delivery.put k rest } : State).Stocked := by
  generalize hu : ({ s.withReturned k l with delivery := s.delivery.put k rest } : State) = u
  have hjob (j : JobId) : u.job j = s.job j := by rw [← hu]; rfl
  have hseq (j : JobId) : u.seqOf j = s.seqOf j := by rw [← hu]; rfl
  have hpool : u.pool = s.pool ++ l := by rw [← hu]; rfl
  have hdelivery : u.delivery = s.delivery.put k rest := by rw [← hu]
  have hframes : u.frames = freedFrames s.frames l := by rw [← hu]; rfl
  have hinUse : u.inUse = s.inUse.put k (s.inUse.get k - l.length) := by rw [← hu]; rfl
  have hlength : (s.delivery.get k).length = l.length + rest.length := by rw [hl, List.length_append]
  have hcount := h.ledger.inUse k
  have hledger : u.Ledger := by
    refine h.ledger.update (j := 0) (fun j _ => by rw [hjob]; exact ⟨rfl, fun _ => rfl⟩) (fun f => ?_) (fun i => ?_)
      (by rw [← hu]; rfl) fun i => ?_
    · have := deliveredCount_put s.delivery k rest f
      rw [hl, List.count_append] at this
      rw [hpool, hdelivery, hjob, List.count_append]
      omega
    · rw [hinUse, hdelivery, hjob, PerHost.get_put, PerHost.get_put]
      split
      · subst i
        omega
      · omega
    · have := h.ledger.within i
      rw [hinUse, PerHost.get_put]
      split
      · subst i
        omega
      · exact this
  refine ⟨hledger, fun f => ?_, fun j => ?_, fun j g => ?_, fun g => ?_⟩
  · by_cases hf : f ∈ l
    · refine hledger.frameSound_of_pool (by rw [hpool]; exact List.mem_append_right _ hf) ?_
      rw [hframes, freedFrames_at, if_pos hf]
    · refine (h.frames f).congr (by rw [hframes, freedFrames_at, if_neg hf]) ?_ (fun j hj => ?_) fun i => ?_
      · rw [hpool, List.mem_append]
        exact fun hp => hp.resolve_right hf
      · rw [hjob, hseq] at *
        exact ⟨hj, rfl, rfl, rfl⟩
      · rw [hdelivery, PerHost.get_put]
        split
        · subst i
          rw [hl]
          exact List.mem_append_right _
        · exact id
  · rw [hjob, hseq, ← hu]
    exact h.claims j
  · rw [hjob, hseq, ← hu]
    exact h.marks j g
  · obtain ⟨hlease, hheld, hpending⟩ := h.holds g
    rw [← hu]
    exact ⟨hlease, hheld, hpending⟩

end Sys2Proof.Machine

namespace Sys2Proof.Machine

/-! ## Windows (R151, R157) -/

/-- What a window of a host requires of its record. -/
structure Window.SoundFor (r : Window) (s : State) (h : HostId) : Prop where
  disabled : r.enabled = false → r.lastZone = .unknown ∧ r.action = .notify
  limits : r.enabled = true → r.low ≤ r.high
  action : ∀ j, r.action = .startJob j → (s.job j).state ≠ .free ∧ (s.job j).owner = h

theorem State.windowsSound_iff (s : State) : s.WindowsSound ↔ ∀ h w, (s.window h w).SoundFor s h :=
  forall₂_congr fun _ _ => ⟨fun ⟨hd, hl, ha⟩ => ⟨hd, hl, ha⟩, fun h => ⟨h.disabled, h.limits, h.action⟩⟩

theorem Window.SoundFor.congr {r : Window} {s t : State} {h : HostId} (hr : r.SoundFor s h)
    (hjob : ∀ k, (s.job k).state ≠ .free → (t.job k).state ≠ .free ∧ (t.job k).owner = (s.job k).owner) :
    r.SoundFor t h := by
  refine ⟨hr.disabled, hr.limits, fun j hj => ?_⟩
  obtain ⟨hnamed, howner⟩ := hr.action j hj
  obtain ⟨hnamed', howner'⟩ := hjob j hnamed
  exact ⟨hnamed', howner'.trans howner⟩

/-! ## Where the holders of a frame stand (R24, R30, R53) -/

/-- What statement O59 needs of the schedule for one job: a fill frame goes with the states that hold one, an entry of the
queue is queued, and the settling job settles. -/
structure State.Stands (s : State) (k : JobId) : Prop where
  aligned : (s.job k).Aligned
  queued : k ∈ s.queue → (s.job k).state.queued = true
  settling : s.engine.settlingJob = some k → (s.job k).state = .settling

/-- The resources agree with the job table, with as much of the schedule as this takes. -/
structure State.Fit (s : State) : Prop where
  stocked : s.Stocked
  stands : ∀ k, s.Stands k
  nodup : s.queue.Nodup
  windows : ∀ h w, (s.window h w).SoundFor s h

/-- The same with one job set aside, which stands neither in the queue nor settling. -/
structure State.FitBut (s : State) (j : JobId) : Prop where
  stocked : s.Stocked
  others : ∀ k, k ≠ j → s.Stands k
  nodup : s.queue.Nodup
  notQueued : j ∉ s.queue
  notSettling : s.engine.settlingJob ≠ some j
  windows : ∀ h w, (s.window h w).SoundFor s h

theorem State.Stands.congr {s t : State} {k : JobId} (h : s.Stands k)
    (hjob : (t.job k).fillFrame = (s.job k).fillFrame ∧ (t.job k).state = (s.job k).state)
    (hqueue : k ∈ t.queue → k ∈ s.queue)
    (hsettling : t.engine.settlingJob = some k → s.engine.settlingJob = some k) : t.Stands k := by
  obtain ⟨hfill, hstate⟩ := hjob
  refine ⟨?_, fun hq => ?_, fun hs => ?_⟩
  · have := h.aligned
    unfold Job.Aligned at this ⊢
    rwa [hfill, hstate]
  · rw [hstate]
    exact h.queued (hqueue hq)
  · rw [hstate]
    exact h.settling (hsettling hs)

/-- The items that `State.Fit` reads. -/
structure State.SameFit (s t : State) : Prop where
  jobs : t.jobs = s.jobs
  seqs : t.seqs = s.seqs
  queue : t.queue = s.queue
  settlingJob : t.engine.settlingJob = s.engine.settlingJob
  transient : t.exc.transient = s.exc.transient
  frames : t.frames = s.frames
  pool : t.pool = s.pool
  allowance : t.allowance = s.allowance
  inUse : t.inUse = s.inUse
  delivery : t.delivery = s.delivery
  groups : t.groups = s.groups
  windows : t.windows = s.windows

section SameFit
variable {s t : State} (h : s.SameFit t)
include h

theorem State.SameFit.job (k : JobId) : t.job k = s.job k := by
  rw [State.job, h.jobs]
  rfl

theorem State.SameFit.seqOf (k : JobId) : t.seqOf k = s.seqOf k := by
  rw [State.seqOf, h.seqs, h.job]
  rfl

theorem State.SameFit.sameStock : s.SameStock t :=
  ⟨h.frames, h.pool, h.allowance, h.inUse, h.delivery, h.groups, h.transient, fun k => by rw [h.job],
    fun k _ => by rw [h.job, h.seqOf]; exact ⟨rfl, rfl, rfl, rfl, rfl⟩⟩

theorem State.SameFit.windowsSound (hs : ∀ h w, (s.window h w).SoundFor s h) (k : HostId) (w : WindowId) :
    (t.window k w).SoundFor t k := by
  rw [State.window, h.windows]
  exact (hs k w).congr fun i hi => by rw [h.job]; exact ⟨hi, rfl⟩

theorem State.SameFit.stands {k : JobId} (hs : s.Stands k) : t.Stands k :=
  hs.congr (by rw [h.job]; exact ⟨rfl, rfl⟩) (by rw [h.queue]; exact id) (by rw [h.settlingJob]; exact id)

theorem State.SameFit.fit (hs : s.Fit) : t.Fit :=
  ⟨h.sameStock.stocked hs.stocked, fun k => h.stands (hs.stands k), by rw [h.queue]; exact hs.nodup,
    h.windowsSound hs.windows⟩

theorem State.SameFit.fitBut {j : JobId} (hs : s.FitBut j) : t.FitBut j :=
  ⟨h.sameStock.stocked hs.stocked, fun k hk => h.stands (hs.others k hk), by rw [h.queue]; exact hs.nodup,
    by rw [h.queue]; exact hs.notQueued, by rw [h.settlingJob]; exact hs.notSettling, h.windowsSound hs.windows⟩

end SameFit

/-! ### Records -/

/-- What a change of a record leaves of its run: host, class, sequence, progress and frame, and that there is a record. -/
structure Job.SameRun (r q : Job) : Prop where
  owner : q.owner = r.owner
  cls : q.cls = r.cls
  seq : q.seq = r.seq
  nextStep : q.nextStep = r.nextStep
  fillFrame : q.fillFrame = r.fillFrame
  named : r.state ≠ .free → q.state ≠ .free

/-- A table of records that leaves every run as it was. -/
theorem State.Stocked.withJobs {s t : State} (h : s.Stocked) (hjobs : ∀ k, (s.job k).SameRun (t.job k))
    (ht : s.SameFit { t with jobs := s.jobs, queue := s.queue }) : t.Stocked := by
  have hseqs : t.seqs = s.seqs := ht.seqs
  have hseq (k : JobId) : t.seqOf k = s.seqOf k := by rw [State.seqOf, hseqs, (hjobs k).seq]; rfl
  exact State.SameStock.stocked ⟨ht.frames, ht.pool, ht.allowance, ht.inUse, ht.delivery, ht.groups, ht.transient,
    fun k => (hjobs k).fillFrame, fun k _ => ⟨(hjobs k).owner, (hjobs k).cls, (hjobs k).nextStep, by rw [hseq],
      by rw [hseq]⟩⟩ h

theorem State.windowsSound_withJobs {s t : State} (h : ∀ h w, (s.window h w).SoundFor s h)
    (hjobs : ∀ k, (s.job k).SameRun (t.job k)) (hw : t.windows = s.windows) (k : HostId) (w : WindowId) :
    (t.window k w).SoundFor t k := by
  rw [State.window, hw]
  exact (h k w).congr fun i hi => ⟨(hjobs i).named hi, (hjobs i).owner⟩

theorem Job.SameRun.refl (r : Job) : r.SameRun r := ⟨rfl, rfl, rfl, rfl, rfl, id⟩

theorem State.sameRun_setJob {s : State} {j : JobId} {r : Job} (hr : (s.job j).SameRun r) (k : JobId) :
    (s.job k).SameRun ((s.setJob j r).job k) := by
  rw [State.setJob_job]
  split
  · subst k
    exact hr
  · exact .refl _

/-! ### One job set aside, and its return -/

section Aside
variable {s : State} {j : JobId}

/-- A job that is neither queued nor settling stands aside. -/
theorem State.Fit.but (h : s.Fit) (hq : (s.job j).state.queued = false) (hs : (s.job j).state ≠ .settling) :
    s.FitBut j :=
  ⟨h.stocked, fun k _ => h.stands k, h.nodup, fun hj => by simp [(h.stands j).queued hj] at hq,
    fun hj => hs ((h.stands j).settling hj), h.windows⟩

/-- Any job stands aside once it has left the queue and the converter is released. -/
theorem State.Fit.releaseConverter (h : s.Fit) (hq : (s.job j).state.queued = false) : s.releaseConverter.FitBut j := by
  refine ⟨(s.sameStock_beside _ _ _).stocked h.stocked, fun k _ => (h.stands k).congr ⟨rfl, rfl⟩ id (by simp), h.nodup,
    fun hj => by simp [(h.stands j).queued hj] at hq, by simp, fun k w => (h.windows k w).congr fun i hi => ⟨hi, rfl⟩⟩

/-- A job that leaves the queue stands aside. -/
theorem State.Fit.dequeue (h : s.Fit) (hs : (s.job j).state ≠ .settling) : (s.dequeue j).FitBut j := by
  have hjobs : ∀ k, (s.job k).SameRun ((s.dequeue j).job k) :=
    State.sameRun_setJob (r := { s.job j with blocked := false }) ⟨rfl, rfl, rfl, rfl, rfl, id⟩
  refine ⟨h.stocked.withJobs hjobs ⟨rfl, rfl, rfl, rfl, rfl, rfl, rfl, rfl, rfl, rfl, rfl, rfl⟩, fun k hk => ?_,
    h.nodup.erase j, h.nodup.not_mem_erase, fun hj => hs ((h.stands j).settling hj),
    State.windowsSound_withJobs h.windows hjobs rfl⟩
  refine (h.stands k).congr ?_ List.mem_of_mem_erase id
  rw [State.job, State.dequeue_jobs, Table.at_put_of_ne _ _ hk]
  exact ⟨rfl, rfl⟩

theorem State.FitBut.setJob (h : s.FitBut j) {r : Job} (hr : (s.job j).SameRun r) : (s.setJob j r).FitBut j := by
  have hjobs := State.sameRun_setJob hr
  refine ⟨h.stocked.withJobs hjobs ⟨rfl, rfl, rfl, rfl, rfl, rfl, rfl, rfl, rfl, rfl, rfl, rfl⟩, fun k hk => ?_, h.nodup,
    h.notQueued, h.notSettling, State.windowsSound_withJobs h.windows hjobs rfl⟩
  refine (h.others k hk).congr ?_ id id
  rw [State.setJob_job, if_neg hk]
  exact ⟨rfl, rfl⟩

/-- The job aside returns with a record that is aligned. -/
theorem State.FitBut.fit (h : s.FitBut j) (ha : (s.job j).Aligned) : s.Fit := by
  refine ⟨h.stocked, fun k => ?_, h.nodup, h.windows⟩
  by_cases hk : k = j
  · subst hk
    exact ⟨ha, fun hq => absurd hq h.notQueued, fun hs => absurd hs h.notSettling⟩
  · exact h.others k hk

/-- The job aside enters the dispatch queue. -/
theorem State.FitBut.enqueue (h : s.FitBut j) (ha : (s.job j).Aligned) (hq : (s.job j).state.queued = true) :
    (s.enqueue j).Fit := by
  have hjobs : ∀ k, (s.job k).SameRun ((s.enqueue j).job k) :=
    State.sameRun_setJob (r := { s.job j with blocked := false }) ⟨rfl, rfl, rfl, rfl, rfl, id⟩
  refine ⟨h.stocked.withJobs hjobs ⟨rfl, rfl, rfl, rfl, rfl, rfl, rfl, rfl, rfl, rfl, rfl, rfl⟩, fun k => ?_,
    (placeInQueue_perm _ j s.queue).nodup_iff.2 (List.nodup_cons.2 ⟨h.notQueued, h.nodup⟩),
    State.windowsSound_withJobs h.windows hjobs rfl⟩
  by_cases hk : k = j
  · subst hk
    refine ⟨?_, fun _ => ?_, fun hs => absurd hs h.notSettling⟩ <;> rw [State.enqueue_job_same]
    · exact ha
    · exact hq
  · refine (h.others k hk).congr ?_ (fun hm => (State.mem_enqueue.1 hm).resolve_left hk) id
    rw [State.job, State.enqueue_jobs, Table.at_put_of_ne _ _ hk]
    exact ⟨rfl, rfl⟩

/-- The job aside takes the converter: it settles, or nothing does. -/
theorem State.FitBut.withEngine (h : s.FitBut j) (ha : (s.job j).Aligned) {e : Engine}
    (he : ∀ k, e.settlingJob = some k → k = j ∧ (s.job j).state = .settling) : ({ s with engine := e } : State).Fit := by
  refine ⟨(s.sameStock_beside _ _ _).stocked h.stocked, fun k => ?_, h.nodup,
    fun k w => (h.windows k w).congr fun i hi => ⟨hi, rfl⟩⟩
  by_cases hk : k = j
  · subst hk
    exact ⟨ha, fun hq => absurd hq h.notQueued, fun hs => (he k hs).2⟩
  · exact (h.others k hk).congr ⟨rfl, rfl⟩ id fun hs => absurd (he k hs).1 hk

/-- A run gives back its frame, its claim and its groups, while the converter may be released. -/
theorem State.FitBut.releaseRun_withEngine {s : State} {j : JobId} {e : Engine}
    (h : ({ s with engine := e } : State).FitBut j) : ({ s.releaseRun j with engine := e } : State).FitBut j := by
  have hbeside := s.releaseRun_sameSchedule j
  have hstocked : s.Stocked := (State.sameStock_beside { s with engine := e } s.engine _ _).stocked h.stocked
  have hjob (k : JobId) : (s.releaseRun j).job k =
      if k = j then { s.job j with fillFrame := none, deadlineTimer := none } else s.job k := by
    rw [hbeside.job, State.setJob_job]
  have hwindows : (s.releaseRun j).windows = s.windows := by
    rw [State.releaseRun_eq, State.vacate_holdsActed]
    rfl
  generalize hu : s.releaseRun j = u at *
  have hqueue : u.queue = s.queue := hbeside.queue
  refine ⟨(u.sameStock_beside e _ _).stocked (hu ▸ hstocked.releaseRun j), fun k hk => (h.others k hk).congr ?_ ?_ id, ?_, ?_,
    h.notSettling, fun k w => ?_⟩
  · change (u.job k).fillFrame = (s.job k).fillFrame ∧ (u.job k).state = (s.job k).state
    rw [hjob, if_neg hk]
    exact ⟨rfl, rfl⟩
  · change k ∈ u.queue → k ∈ s.queue
    rw [hqueue]
    exact id
  · change u.queue.Nodup
    rw [hqueue]
    exact h.nodup
  · change j ∉ u.queue
    rw [hqueue]
    exact h.notQueued
  · change ((u.windows.get k).at w).SoundFor _ k
    rw [hwindows]
    refine (h.windows k w).congr fun i hi => ?_
    change (u.job i).state ≠ .free ∧ (u.job i).owner = (s.job i).owner
    rw [hjob]
    split
    · subst i
      exact ⟨hi, rfl⟩
    · exact ⟨hi, rfl⟩

theorem State.FitBut.releaseRun (h : s.FitBut j) : (s.releaseRun j).FitBut j := by
  have hleft := State.FitBut.releaseRun_withEngine (s := s) (e := s.engine) h
  rwa [← s.releaseRun_engine j] at hleft

end Aside

/-- A record changes where it stands. -/
theorem State.Fit.setJob {s : State} (h : s.Fit) {j : JobId} {r : Job} (hr : (s.job j).SameRun r)
    (hd : r.state.dispatched = (s.job j).state.dispatched)
    (hq : (s.job j).state.queued = true → r.state.queued = true)
    (hs : (s.job j).state = .settling → r.state = .settling) : (s.setJob j r).Fit := by
  have hjobs := State.sameRun_setJob hr
  refine ⟨h.stocked.withJobs hjobs ⟨rfl, rfl, rfl, rfl, rfl, rfl, rfl, rfl, rfl, rfl, rfl, rfl⟩, fun k => ?_, h.nodup,
    State.windowsSound_withJobs h.windows hjobs rfl⟩
  by_cases hk : k = j
  · subst hk
    obtain ⟨haligned, hqueued, hsettling⟩ := h.stands k
    refine ⟨?_, fun hm => ?_, fun he => ?_⟩ <;> rw [State.setJob_job_same]
    · unfold Job.Aligned at haligned ⊢
      rw [hr.fillFrame, hd, haligned]
    · exact hq (hqueued hm)
    · exact hs (hsettling he)
  · refine (h.stands k).congr ?_ id id
    rw [State.setJob_job, if_neg hk]
    exact ⟨rfl, rfl⟩

/-- A record changes, but for its state. -/
theorem State.Fit.setJob_state {s : State} (h : s.Fit) {j : JobId} {r : Job} (hr : (s.job j).SameRun r)
    (hs : r.state = (s.job j).state) : (s.setJob j r).Fit :=
  h.setJob hr (by rw [hs]) (by rw [hs]; exact id) (by rw [hs]; exact id)

theorem State.Fit.refreshBlocked {s : State} (h : s.Fit) : s.refreshBlocked.Fit := by
  have hjobs (k : JobId) : (s.job k).SameRun (s.refreshBlocked.job k) := by
    rw [State.refreshBlocked_job]
    split
    · exact ⟨rfl, rfl, rfl, rfl, rfl, id⟩
    · exact .refl _
  have heq := s.refreshBlocked_eq
  refine ⟨h.stocked.withJobs hjobs ?_, fun k => (h.stands k).congr ?_ ?_ ?_, ?_, State.windowsSound_withJobs h.windows hjobs
    (by rw [heq])⟩
  · rw [heq]
    exact ⟨rfl, rfl, rfl, rfl, rfl, rfl, rfl, rfl, rfl, rfl, rfl, rfl⟩
  · rw [State.refreshBlocked_job]
    split <;> exact ⟨rfl, rfl⟩
  · rw [State.refreshBlocked_queue]
    exact id
  · rw [heq]
    exact id
  · rw [State.refreshBlocked_queue]
    exact h.nodup

end Sys2Proof.Machine

namespace Sys2Proof.Machine

/-! ## Run ends and queue entries keep the resources (R6, R14, R15, R16) -/

theorem State.sameFit_setJob (s : State) (j : JobId) (r : Job) (events : PerHost EventQueue) :
    (s.setJob j r).SameFit { s with jobs := s.jobs.put j r, events := events } :=
  ⟨rfl, rfl, rfl, rfl, rfl, rfl, rfl, rfl, rfl, rfl, rfl, rfl⟩

theorem State.emit_sameFit (s : State) (h : HostId) (i : Option JobId) (f : Option FrameId) (b : EventBody) :
    s.SameFit (s.emit h i f b) := ⟨rfl, rfl, rfl, rfl, rfl, rfl, rfl, rfl, rfl, rfl, rfl, rfl⟩

theorem Job.aligned_of_none {r : Job} (hf : r.fillFrame = none) (hs : r.state.dispatched = false) : r.Aligned := by
  rw [Job.Aligned, hf, hs]
  rfl

theorem Job.Aligned.fillFrame_eq_none {r : Job} (h : r.Aligned) (hs : r.state.dispatched = false) : r.fillFrame = none := by
  rw [← Option.not_isSome_iff_eq_none, h, hs]
  exact Bool.false_ne_true

theorem Job.ended_dispatched (r : Job) : r.ended.state.dispatched = false := by
  rcases r.endState_cases with he | he | he <;> simp [Job.ended, he, JobState.dispatched]

theorem Job.ended_sameRun (r : Job) : r.SameRun r.ended := by
  refine ⟨rfl, rfl, rfl, rfl, rfl, fun _ => ?_⟩
  rcases r.endState_cases with he | he | he <;> simp [Job.ended, he]

theorem Job.SameRun.trans {r q p : Job} (h : r.SameRun q) (k : q.SameRun p) : r.SameRun p :=
  ⟨k.owner.trans h.owner, k.cls.trans h.cls, k.seq.trans h.seq, k.nextStep.trans h.nextStep,
    k.fillFrame.trans h.fillFrame, k.named ∘ h.named⟩

section Ends
variable {s : State} {j : JobId} (h : s.FitBut j)
include h

/-- The job aside, which holds nothing, enters PENDING, with its deadline's expiry at once (R6, R44). -/
theorem State.FitBut.entering {r : Job} (hr : (s.job j).SameRun r) (hs : r.state = .pending) (hf : r.fillFrame = none) :
    (s.entering j r).Fit := by
  unfold State.entering
  split
  · dsimp only
    split
    · refine ((s.sameFit_setJob j { r with deadlineTimer := none, deadlineMissed := true } _).fitBut
        (h.setJob ⟨hr.owner, hr.cls, hr.seq, hr.nextStep, hr.fillFrame, fun _ => by simp [hs]⟩)).enqueue ?_ ?_ <;>
        rw [(s.sameFit_setJob ..).job, State.setJob_job_same]
      · exact Job.aligned_of_none hf (by simp [hs, JobState.dispatched])
      · simp [hs, JobState.queued]
    · generalize hq : ({ r with runNumber := r.runNumber + 1, deadlineTimer := none, blocked := false } : Job) = q
      have hrun : (s.job j).SameRun q := by
        rw [← hq]
        exact ⟨hr.owner, hr.cls, hr.seq, hr.nextStep, hr.fillFrame, hr.named⟩
      refine (s.sameFit_setJob j q.ended _).fit ((h.setJob (hrun.trans q.ended_sameRun)).fit ?_)
      rw [State.setJob_job_same]
      exact Job.aligned_of_none (by rw [← hq]; exact hf) q.ended_dispatched
  · refine (h.setJob hr).enqueue ?_ ?_ <;> rw [State.setJob_job_same]
    · exact Job.aligned_of_none hf (by simp [hs, JobState.dispatched])
    · simp [hs, JobState.queued]

/-- The job aside, which holds nothing, enters the queue with a trigger or a latch. -/
theorem State.FitBut.enterTriggered {r : Job} (hr : (s.job j).SameRun r) (hf : r.fillFrame = none) (stamp : Time)
    (mark : Option EdgeMark) : (((s.setJob j (r.triggered stamp mark)).enqueue j).expireAtOnce j).Fit := by
  rw [State.expireAtOnce_enqueue rfl rfl rfl h.notQueued]
  exact h.entering ⟨hr.owner, hr.cls, hr.seq, hr.nextStep, hr.fillFrame, fun _ => by simp [Job.triggered]⟩ rfl hf

/-- A counted run end of the job aside, which holds nothing (R14, R15). -/
theorem State.FitBut.endRun (hf : (s.job j).fillFrame = none) : (s.endRun j).Fit := by
  by_cases hl : (s.job j).endState ≠ .armed ∨ (s.job j).latch = none
  · rw [State.endRun_of_no_latch hl]
    refine (s.sameFit_setJob j (s.job j).ended _).fit ((h.setJob (s.job j).ended_sameRun).fit ?_)
    rw [State.setJob_job_same]
    exact Job.aligned_of_none hf (s.job j).ended_dispatched
  · obtain ⟨ha, hs⟩ := not_or.1 hl
    obtain ⟨stamp, hstamp⟩ := Option.ne_none_iff_exists'.1 hs
    rw [State.endRun_of_latch (not_not.1 ha) hstamp]
    exact h.enterTriggered (s.job j).ended_sameRun hf stamp none

/-! ## The converter (R7, R9, R12, R109) -/

/-- The job aside takes the converter with its frame. -/
theorem State.FitBut.giveConverter (hf : (s.job j).fillFrame.isSome = true) : (s.giveConverter j).Fit := by
  have hset (st : JobState) (hst : st = .running ∨ st = .settling) :
      (s.setJob j { s.job j with state := st }).FitBut j ∧ ((s.setJob j { s.job j with state := st }).job j).Aligned := by
    have hnot : st ≠ .free ∧ st.dispatched = true := by rcases hst with rfl | rfl <;> decide
    refine ⟨h.setJob ⟨rfl, rfl, rfl, rfl, rfl, fun _ => hnot.1⟩, ?_⟩
    rw [State.setJob_job_same]
    exact hf.trans hnot.2.symm
  unfold State.giveConverter
  split
  · obtain ⟨hrun, ha⟩ := hset .running (.inl rfl)
    unfold State.run State.startStep
    split
    · exact hrun.fit ha
    · exact hrun.withEngine ha (by simp)
  · obtain ⟨hsettle, ha⟩ := hset .settling (.inr rfl)
    refine hsettle.withEngine ha fun k hk => ?_
    rw [State.setJob_job_same]
    exact ⟨(Option.some.inj hk).symm, rfl⟩

end Ends

/-! ## A new run takes up a frame (R7, R58, R60) -/

/-- A state in which a frame has left its place for a job that holds none yet. -/
structure State.FrameTaken (s : State) (j : JobId) (f : FrameId) (t : State) : Prop where
  jobs : t.jobs = s.jobs
  seqs : t.seqs = s.seqs
  queue : t.queue = s.queue
  engine : t.engine = s.engine
  exc : t.exc = s.exc
  groups : t.groups = s.groups
  windows : t.windows = s.windows
  allowance : t.allowance = s.allowance
  frames : t.frames = s.frames.put f (s.newFrame j)
  pool : ∀ i ∈ t.pool, i ∈ s.pool
  delivery : ∀ k, ∀ i ∈ t.delivery.get k, i ∈ s.delivery.get k
  places : ∀ i, t.pool.count i + [f].count i + deliveredCount t.delivery i = s.pool.count i + deliveredCount s.delivery i
  inUse : ∀ k, t.inUse.get k + (s.delivery.get k).length =
    s.inUse.get k + (t.delivery.get k).length + if (s.job j).owner = k then 1 else 0
  within : ∀ k, t.inUse.get k ≤ s.allowance.get k

theorem State.Ledger.takeFrame {s : State} (h : s.Ledger) {j : JobId} {f : FrameId} {rest : List FrameId}
    (ha : s.allocation j = .fromPool f rest) : s.FrameTaken j f (s.takeFrame j f rest) := by
  have hpool : s.pool = f :: rest ∧ s.inUse.get (s.job j).owner < s.allowance.get (s.job j).owner := by
    unfold State.allocation at ha
    grind
  obtain ⟨hpool, hbelow⟩ := hpool
  have hinUse (k : HostId) : (s.takeFrame j f rest).inUse.get k = s.inUse.get k + if (s.job j).owner = k then 1 else 0 := by
    change (s.inUse.put (s.job j).owner (s.inUse.get (s.job j).owner + 1)).get k = _
    rw [PerHost.get_put]
    split
    · subst k
      rw [if_pos rfl]
    · rw [if_neg (Ne.symm ‹_›)]
      rfl
  refine ⟨rfl, rfl, rfl, rfl, rfl, rfl, rfl, rfl, rfl, fun i hi => ?_, fun k i hi => hi, fun i => ?_, fun k => ?_,
    fun k => ?_⟩
  · rw [hpool]
    exact List.mem_cons_of_mem f hi
  · change rest.count i + [f].count i + deliveredCount s.delivery i = _
    have : (f :: rest).count i = [f].count i + rest.count i := List.count_append (l₁ := [f])
    rw [hpool, this]
    omega
  · rw [hinUse]
    change _ + (s.delivery.get k).length = _ + (s.delivery.get k).length + _
    omega
  · have := h.within k
    rw [hinUse]
    split
    · subst k
      omega
    · omega

theorem State.Ledger.reclaimFrame {s : State} (h : s.Ledger) {j : JobId} {f : FrameId} {rest : List FrameId}
    (ha : s.allocation j = .reclaim f rest) : s.FrameTaken j f (s.reclaimFrame j f rest) := by
  have hhead : s.delivery.get (s.job j).owner = f :: rest := by
    unfold State.allocation at ha
    grind
  have hdelivery : (s.reclaimFrame j f rest).delivery = s.delivery.put (s.job j).owner rest := rfl
  refine ⟨rfl, rfl, rfl, rfl, rfl, rfl, rfl, rfl, rfl, fun i hi => hi, fun k i => ?_, fun i => ?_, fun k => ?_, h.within⟩
  · rw [hdelivery, PerHost.get_put]
    split
    · subst k
      rw [hhead]
      exact List.mem_cons_of_mem f
    · exact id
  · have := deliveredCount_put s.delivery (s.job j).owner rest i
    have hcons : (f :: rest).count i = [f].count i + rest.count i := List.count_append (l₁ := [f])
    rw [hhead, hcons] at this
    change s.pool.count i + [f].count i + deliveredCount (s.delivery.put (s.job j).owner rest) i = _
    omega
  · change s.inUse.get k + _ = s.inUse.get k + _ + _
    rw [hdelivery, PerHost.get_put]
    by_cases hk : k = (s.job j).owner
    · subst hk
      rw [hhead]
      simp [Nat.add_assoc]
    · simp [hk, Ne.symm hk]

/-- A new run before it gets the converter: number, frame, queue, claim and holds (R7). -/
def State.runTakenUp (t : State) (j : JobId) (f : FrameId) : State :=
  (((t.dequeue j).setJob j { (t.dequeue j).job j with
    runNumber := ((t.dequeue j).job j).runNumber + 1, fillFrame := some f, nextStep := 0, preemptCount := 0 }).placeClaim
    j).tellHolds j

theorem State.startRun_eq_giveConverter (t : State) (j : JobId) (f : FrameId) :
    t.startRun j f = (t.runTakenUp j f).giveConverter j := rfl

/-- The record of a new run. -/
def Job.startedWith (r : Job) (f : FrameId) : Job :=
  { r with runNumber := r.runNumber + 1, fillFrame := some f, nextStep := 0, preemptCount := 0, blocked := false }

theorem State.FrameTaken.seqOf {s t : State} {j : JobId} {f : FrameId} (ht : s.FrameTaken j f t) (k : JobId) :
    t.seqOf k = s.seqOf k := by
  rw [State.seqOf, State.job, ht.jobs, ht.seqs]
  rfl

/-- The fields of a new run before it gets the converter. -/
theorem State.runTakenUp_eq (t : State) (j : JobId) (f : FrameId) :
    t.runTakenUp j f = { t with
      jobs := t.jobs.put j ((t.job j).startedWith f), queue := t.queue.erase j
      exc := Excitation.recompute
        { t.exc with transient := t.exc.transient.put j (some (t.seqOf j).minimum) } t.timeBase
      groups := (t.runTakenUp j f).groups, events := (t.runTakenUp j f).events } ∧
    ∀ g, (t.runTakenUp j f).groups.at g = if (t.job j).cls = .routine ∧ (t.seqOf j).touches g = true then
        { t.groups.at g with occupants := (t.groups.at g).occupants.put j true }
      else t.groups.at g := by
  obtain ⟨u, hu⟩ : ∃ u : State, u = { t with
      jobs := t.jobs.put j ((t.job j).startedWith f), queue := t.queue.erase j
      exc := Excitation.recompute
        { t.exc with transient := t.exc.transient.put j (some (t.seqOf j).minimum) } t.timeBase } := ⟨_, rfl⟩
  have hjob : u.job j = (t.job j).startedWith f := by
    rw [hu]
    exact Table.at_put_same ..
  have hseq : u.seqOf j = t.seqOf j := by
    rw [State.seqOf, hjob, hu]
    rfl
  have htold : t.runTakenUp j f = u.tellHolds j := by
    unfold State.runTakenUp
    refine congrArg (State.tellHolds · j) ?_
    rw [hu, State.dequeue_setJob, State.dequeue_job_same]
    simp only [State.placeClaim, State.setTransient, State.seqOf, State.job, Table.at_put_same]
    rfl
  obtain ⟨heq, hgroups, _⟩ := u.tellHolds_cases j
  rw [hjob, hseq] at hgroups
  rw [htold]
  refine ⟨?_, fun g => (hgroups g).trans ?_⟩
  · rw [heq, hu]
  · rw [hu]
    rfl

end Sys2Proof.Machine

namespace Sys2Proof.Machine

section Taken
variable {s t : State} {j : JobId} {f : FrameId} (ht : s.FrameTaken j f t)
include ht

theorem State.FrameTaken.runTakenUp_job (k : JobId) :
    (t.runTakenUp j f).job k = if k = j then (s.job j).startedWith f else s.job k := by
  rw [(t.runTakenUp_eq j f).1, State.job, Table.at_put, State.job, State.job, ht.jobs]
  rfl

/-- A selected run takes up its frame, its claim and its places (R7, R58, R60). -/
theorem State.FrameTaken.takenUp (h : s.Stocked) (hf : (s.job j).fillFrame = none) :
    s.TakenUp j f (t.runTakenUp j f) := by
  have hjob := ht.runTakenUp_job
  obtain ⟨heq, hgroups⟩ := t.runTakenUp_eq j f
  have hrecord : t.job j = s.job j := by rw [State.job, ht.jobs]; rfl
  rw [ht.seqOf, hrecord, ht.groups] at hgroups
  generalize hu : t.runTakenUp j f = u at *
  have hself := (hjob j).trans (if_pos rfl)
  have hothers (k : JobId) (hk : k ≠ j) : u.job k = s.job k := (hjob k).trans (if_neg hk)
  have hpool : u.pool = t.pool := by rw [heq]
  have hdelivery : u.delivery = t.delivery := by rw [heq]
  have hinUse : u.inUse = t.inUse := by rw [heq]
  refine ⟨?_, by rw [hpool]; exact ht.pool, by rw [hdelivery]; exact ht.delivery, by rw [heq]; exact ht.frames,
    by rw [hself]; rfl, by rw [hself]; rfl, by rw [hself]; exact ⟨rfl, rfl, rfl⟩, hothers, by rw [heq]; exact ht.seqs, ?_,
    hgroups⟩
  · refine h.ledger.update (j := j) (fun k hk => by rw [hothers k hk]; exact ⟨rfl, fun _ => rfl⟩) (fun i => ?_)
      (fun k => ?_) (by rw [heq]; exact ht.allowance) fun k => by rw [hinUse]; exact ht.within k
    · have := ht.places i
      rw [hpool, hdelivery, hself]
      simp only [Job.fills, Job.startedWith, hf, Option.toList_some, Option.toList_none, List.count_nil]
      omega
    · have := ht.inUse k
      rw [hinUse, hdelivery, hself]
      have hbefore : (s.job j).fillsFor k = 0 := by simp [Job.fillsFor, hf]
      have hafter : ((s.job j).startedWith f).fillsFor k = if (s.job j).owner = k then 1 else 0 := rfl
      rw [hbefore, hafter]
      omega
  · rw [heq, ← ht.seqOf, ← ht.exc]
    exact Excitation.recompute_transient ..

/-- The selected run stands aside until it gets the converter. -/
theorem State.FrameTaken.fitBut (h : s.Fit) (hs : (s.job j).state = .pending) (hheldBack : s.heldBack j = false) :
    (t.runTakenUp j f).FitBut j := by
  have hf := (h.stands j).aligned.fillFrame_eq_none (by simp [hs, JobState.dispatched])
  have hstocked := h.stocked.takenUp (ht.takenUp h.stocked hf) hheldBack
  have hjob := ht.runTakenUp_job
  have heq := (t.runTakenUp_eq j f).1
  generalize t.runTakenUp j f = u at *
  have hqueue : u.queue = s.queue.erase j := by rw [heq, ← ht.queue]
  have hengine : u.engine = s.engine := by rw [heq]; exact ht.engine
  refine ⟨hstocked, fun k hk => (h.stands k).congr (by rw [hjob, if_neg hk]; exact ⟨rfl, rfl⟩) ?_ ?_, ?_, ?_, ?_,
    fun k w => ?_⟩
  · rw [hqueue]
    exact List.mem_of_mem_erase
  · rw [hengine]
    exact id
  · rw [hqueue]
    exact h.nodup.erase j
  · rw [hqueue]
    exact h.nodup.not_mem_erase
  · rw [hengine]
    intro hset
    have := (h.stands j).settling hset
    simp [hs] at this
  · have hwindows : u.windows = s.windows := by rw [heq]; exact ht.windows
    rw [State.window, hwindows]
    refine (h.windows k w).congr fun i hi => ?_
    rw [hjob]
    split
    · subst i
      exact ⟨hi, rfl⟩
    · exact ⟨hi, rfl⟩

theorem State.FrameTaken.startRun (h : s.Fit) (hs : (s.job j).state = .pending) (hheldBack : s.heldBack j = false) :
    (t.startRun j f).Fit := by
  rw [State.startRun_eq_giveConverter]
  refine (ht.fitBut h hs hheldBack).giveConverter ?_
  rw [ht.runTakenUp_job, if_pos rfl]
  rfl

end Taken

/-! ## Decisions keep the resources (R31, R32, R33) -/

theorem Frame.restart_at (x : Frame) (k : Fin 16) :
    x.restart.samples.at k = { x.samples.at k with valid := false } := by
  simp [Frame.restart, Table.at]

/-- A restarted frame has no valid sample, as a run at its first step (R63). -/
theorem Frame.FillsFor.restart {x : Frame} {j : JobId} {r : Job} {n : Nat} (h : x.FillsFor j r n) :
    x.restart.FillsFor j { r with nextStep := 0 } n := by
  refine ⟨h.state, h.job, h.owner, h.sampleCount, fun k => ?_⟩
  rw [Frame.restart_at]
  rfl

theorem Frame.restart_inOrder (x : Frame) : x.restart.InOrder := by
  intro k hk
  rw [Frame.restart_at] at hk
  cases hk

/-- The fill frame of a reselected run is cleared with its progress (R63). -/
theorem State.FitBut.restartRun {s : State} {j : JobId} (h : s.FitBut j) {f : FrameId} (hf : (s.job j).fillFrame = some f) :
    ((s.setFrame f (s.frames.at f).restart).setJob j { s.job j with nextStep := 0 }).FitBut j := by
  have hjob (k : JobId) : ((s.setFrame f (s.frames.at f).restart).setJob j { s.job j with nextStep := 0 }).job k =
      if k = j then { s.job j with nextStep := 0 } else s.job k := Table.at_put ..
  refine ⟨h.stocked.writeFrame hf (.refl _) ((h.stocked.frames f).filling j hf).restart (Frame.restart_inOrder _),
    fun k hk => (h.others k hk).congr (by rw [hjob, if_neg hk]; exact ⟨rfl, rfl⟩) id id, h.nodup, h.notQueued, h.notSettling,
    fun k w => (h.windows k w).congr fun i hi => ?_⟩
  rw [hjob]
  split
  · subst i
    exact ⟨hi, rfl⟩
  · exact ⟨hi, rfl⟩

section Selection
variable {s : State} {j : JobId} (h : s.Fit)
include h

theorem State.Fit.refuseRun (hs : (s.job j).state = .pending) : (s.refuseRun j).Fit := by
  have hf := (h.stands j).aligned.fillFrame_eq_none (by simp [hs, JobState.dispatched])
  unfold State.refuseRun
  refine State.FitBut.endRun (State.SameFit.fitBut (State.emit_sameFit ..)
    ((h.dequeue (by simp [hs])).setJob ⟨rfl, rfl, rfl, rfl, rfl, id⟩)) ?_
  rw [State.emit_job, State.setJob_job_same, State.dequeue_job_same]
  exact hf

theorem State.Fit.resumeRun (hs : (s.job j).state = .preempted) : (s.resumeRun j).Fit := by
  have haside := h.dequeue (j := j) (by simp [hs])
  have hf : ((s.dequeue j).job j).fillFrame.isSome = true := by
    rw [State.dequeue_job_same]
    exact (h.stands j).aligned.trans (by rw [hs]; rfl)
  unfold State.resumeRun
  dsimp only
  split
  · exact haside.giveConverter hf
  · rename_i hnone
    rw [hnone] at hf
    cases hf
  · rename_i f _ hfill
    refine (haside.restartRun hfill).giveConverter ?_
    rw [State.setJob_job_same]
    exact hf

end Selection

theorem State.Fit.selectFrom (n : Nat) {s : State} (h : s.Fit) : (State.selectFrom n s).Fit := by
  induction n generalizing s with
  | zero => exact h
  | succ n ih =>
    unfold State.selectFrom
    split
    · exact h
    · rename_i j hj
      have hqueued := (h.stands j).queued (List.mem_of_find?_eq_some hj)
      have hheldBack : s.heldBack j = false := by simpa using List.find?_some hj
      split
      · exact h.resumeRun ‹_›
      · have hs : (s.job j).state = .pending := by
          cases hst : (s.job j).state <;> simp_all [JobState.queued]
        split
        · exact (h.stocked.ledger.takeFrame ‹_›).startRun h hs hheldBack
        · exact (h.stocked.ledger.reclaimFrame ‹_›).startRun h hs hheldBack
        · exact ih (h.refuseRun hs)

theorem State.Fit.freeDecision {s : State} (h : s.Fit) : s.freeDecision.Fit := by
  have hfresh : (State.refreshBlocked { s with decisionDue := false }).Fit :=
    State.Fit.refreshBlocked (State.SameFit.fit (s := s) ⟨rfl, rfl, rfl, rfl, rfl, rfl, rfl, rfl, rfl, rfl, rfl, rfl⟩ h)
  have hcalibrates (t : State) (ht : t.Fit) : ({ t with engine := t.engine.startCalibration t.timeBase } : State).Fit :=
    State.SameFit.fit (s := t) ⟨rfl, rfl, rfl, rfl, rfl, rfl, rfl, rfl, rfl, rfl, rfl, rfl⟩ ht
  unfold State.freeDecision
  dsimp only
  split
  · split
    · exact hcalibrates _ hfresh
    · exact hfresh.selectFrom _
  · split
    · exact hcalibrates _ hfresh
    · exact hfresh
  all_goals exact h

/-! ## Arrivals and displacements keep the resources (R30, R38 to R41) -/

/-- The job aside, which holds a frame, enters PREEMPTED. -/
theorem State.FitBut.preempt {s : State} {j : JobId} (h : s.FitBut j) (hf : (s.job j).fillFrame.isSome = true) :
    (s.preempt j).Fit := by
  have haside := h.setJob (r := { s.job j with
    state := .preempted, preemptCount := saturate 255 (s.job j).preemptCount }) ⟨rfl, rfl, rfl, rfl, rfl, by simp⟩
  refine haside.enqueue ?_ ?_ <;> rw [State.setJob_job_same]
  · exact hf
  · rfl

section Arrivals
variable {s : State} (h : s.Fit)
include h

theorem State.Fit.arrival : s.arrival.Fit := by
  unfold State.arrival
  split
  · exact h.freeDecision
  · exact h

theorem State.Fit.displace : s.displace.Fit := by
  unfold State.displace
  split
  · exact h
  · rename_i k hk
    obtain ⟨_, hj, _⟩ := (s.settlingRoutine_eq_some_iff k).1 hk
    have hs := (h.stands k).settling hj
    rw [State.preempt_releaseConverter]
    refine State.Fit.freeDecision ((h.releaseConverter (j := k) (by rw [hs]; rfl)).preempt ?_)
    exact (h.stands k).aligned.trans (by rw [hs]; rfl)

theorem State.Fit.entryArrival (c : JobClass) : (s.entryArrival c).Fit := by
  unfold State.entryArrival
  split
  · exact h.displace
  · exact h.arrival

theorem State.Fit.intervalArrival : s.intervalArrival.Fit := by
  unfold State.intervalArrival
  split
  · exact h.displace
  · exact h.arrival

end Arrivals

end Sys2Proof.Machine

namespace Sys2Proof.Machine

/-! ## Triggers keep the resources (R86, R87) -/

theorem State.drawn_sameFit (s : State) : s.SameFit s.drawn :=
  ⟨rfl, rfl, rfl, rfl, rfl, rfl, rfl, rfl, rfl, rfl, rfl, rfl⟩

section Triggers
variable {s : State} (h : s.Fit)
include h

theorem State.Fit.missTrigger (j : JobId) (source : TriggerSource) (stamp : Time) :
    (s.missTrigger j source stamp).Fit := by
  have hset : (s.setJob j { s.job j with missed := saturate 255 (s.job j).missed }).Fit :=
    h.setJob_state ⟨rfl, rfl, rfl, rfl, rfl, id⟩ rfl
  unfold State.missTrigger
  dsimp only
  split
  · exact (State.emit_sameFit ..).fit hset
  · exact hset

/-- A job in ARMED takes a trigger and enters the queue. -/
theorem State.Fit.enterPending {j : JobId} (hs : (s.job j).state = .armed) (stamp : Time) (mark : Option EdgeMark) :
    ((s.enterPending j stamp mark).expireAtOnce j).Fit :=
  (h.but (by rw [hs]; rfl) (by simp [hs])).enterTriggered (.refl _)
    ((h.stands j).aligned.fillFrame_eq_none (by rw [hs]; rfl)) stamp mark

theorem State.Fit.takeTriggerThen {entered : State → State} (hentered : ∀ t : State, t.Fit → (entered t).Fit) (j : JobId)
    (source : TriggerSource) (stamp : Time) (mark : Option EdgeMark) :
    (State.takeTriggerThen entered s j source stamp mark).Fit := by
  unfold State.takeTriggerThen
  split
  · exact hentered _ (h.enterPending (Job.onTrigger_queued ‹_›) stamp mark)
  · exact h.setJob_state ⟨rfl, rfl, rfl, rfl, rfl, id⟩ rfl
  · exact h.missTrigger j source stamp
  · exact h

theorem State.Fit.takeTrigger (j : JobId) (source : TriggerSource) (stamp : Time) (mark : Option EdgeMark) :
    (s.takeTrigger j source stamp mark).Fit :=
  h.takeTriggerThen (fun _ ht => ht.entryArrival _) j source stamp mark

theorem State.Fit.edgeEntry (p : Presentation) (c : JobClass) : (s.edgeEntry p c).Fit := by
  unfold State.edgeEntry
  split
  · split
    · exact State.SameFit.fit (s := s) ⟨rfl, rfl, rfl, rfl, rfl, rfl, rfl, rfl, rfl, rfl, rfl, rfl⟩ h
    · exact (s.drawn_sameFit.fit h).freeDecision
  · exact h.entryArrival c

theorem State.Fit.settleDecision (p : Presentation) : (s.settleDecision p).Fit := by
  unfold State.settleDecision
  split
  · exact h.freeDecision
  · exact h

theorem State.Fit.present (o : Origin) : (s.present o).Fit := by
  unfold State.present
  split
  · exact h
  · have ht (waiting : List Presentation) : ({ s with waiting := waiting } : State).Fit :=
      State.SameFit.fit (s := s) ⟨rfl, rfl, rfl, rfl, rfl, rfl, rfl, rfl, rfl, rfl, rfl, rfl⟩ h
    exact ((ht _).takeTriggerThen (fun _ hu => hu.edgeEntry _ _) _ _ _ _).settleDecision _

theorem State.Fit.periodTrigger (j : JobId) : (s.periodTrigger j).Fit := by
  unfold State.periodTrigger
  split
  · exact h
  · split
    · exact State.Fit.takeTrigger (h.setJob_state (r := { s.job j with
        periodTimer := (s.job j).period.map (after _) }) ⟨rfl, rfl, rfl, rfl, rfl, id⟩ rfl) ..
    · exact h

end Triggers

/-! ## A record returns to FREE (R20, R103, R157) -/

theorem Window.SoundFor.revert {r : Window} {s t : State} {h : HostId} (hr : r.SoundFor s h) {j : JobId}
    (hothers : ∀ k, k ≠ j → t.job k = s.job k) : (r.revert j).SoundFor t h := by
  obtain ⟨hdisabled, hlimits, haction⟩ := hr
  unfold Window.revert
  split
  · exact ⟨fun hd => ⟨(hdisabled hd).1, rfl⟩, hlimits, by simp⟩
  · rename_i hne
    refine ⟨hdisabled, hlimits, fun k hk => ?_⟩
    rw [hothers k (by rintro rfl; exact hne hk)]
    exact haction k hk

/-- A sequence that another job names keeps its steps and its minimum (R103). -/
theorem State.SequencesSound.dropped_of_named {s : State} (h : s.SequencesSound) {j k : JobId} (hne : k ≠ j)
    (hj : (s.job j).state ≠ .free) (hk : (s.job k).state ≠ .free) (hseq : (s.job k).seq = (s.job j).seq) :
    (s.seqOf j).dropped = { s.seqOf j with refCount := (s.seqOf j).refCount - 1 } := by
  have hrefs : (s.seqOf j).refCount = s.namers (s.job j).seq := (h.1 (s.job j).seq).1
  have htwo := s.namers_setJob j Job.free (s.job j).seq
  have hother : 0 < (s.setJob j Job.free).namers (s.job j).seq := by
    have := State.namers_pos (s := s.setJob j Job.free) (j := k) (by rw [State.setJob_job, if_neg hne]; exact hk)
    rwa [State.setJob_job, if_neg hne, hseq] at this
  rw [(Job.names_iff _ _).2 ⟨hj, rfl⟩, show Job.free.names (s.job j).seq = false by simp [Job.names, Job.free]] at htwo
  simp only [if_true, Bool.false_eq_true, if_false] at htwo
  rw [Seq.dropped, if_neg (by omega)]

/-- The job aside, which holds nothing, returns its record. -/
theorem State.FitBut.freeJob {s : State} {j : JobId} (h : s.FitBut j) (hseqs : s.SequencesSound)
    (hnamed : (s.job j).state ≠ .free) (hf : (s.job j).fillFrame = none) : (s.freeJob j).Fit := by
  have heq := s.freeJob_eq j
  generalize hu : s.freeJob j = u at *
  have hjob (k : JobId) : u.job k = if k = j then Job.free else s.job k := by
    rw [heq]
    exact Table.at_put ..
  have hself := (hjob j).trans (if_pos rfl)
  have hothers (k : JobId) (hk : k ≠ j) : u.job k = s.job k := (hjob k).trans (if_neg hk)
  have hqueue : u.queue = s.queue := by rw [heq]
  have hengine : u.engine = s.engine := by rw [heq]
  have hstore : u.seqs = s.seqs.put (s.job j).seq (s.seqOf j).dropped := by rw [heq]; rfl
  have hfill (k : JobId) : (u.job k).fillFrame = (s.job k).fillFrame := by
    by_cases hk : k = j
    · rw [hk, hself, hf]
      rfl
    · rw [hothers k hk]
  have hkept (k : JobId) (hk : (s.job k).fillFrame.isSome = true) :
      (u.seqOf k).steps = (s.seqOf k).steps ∧ (u.seqOf k).minimum = (s.seqOf k).minimum := by
    have hne : k ≠ j := by
      rintro rfl
      simp [hf] at hk
    have hbusy : (s.job k).state ≠ .free := by
      intro hs
      have := (h.others k hne).aligned
      rw [Job.Aligned, hk, hs] at this
      cases this
    rw [State.seqOf, hothers k hne, hstore, Table.at_put]
    split
    · rename_i hseq
      rw [hseqs.dropped_of_named hne hnamed hbusy hseq, State.seqOf, State.seqOf, hseq]
      exact ⟨rfl, rfl⟩
    · exact ⟨rfl, rfl⟩
  refine ⟨State.SameStock.stocked (s := s) ⟨by rw [heq], by rw [heq], by rw [heq], by rw [heq], by rw [heq], by rw [heq],
    by rw [heq], hfill, fun k hk => ?_⟩ h.stocked, fun k => ?_, by rw [hqueue]; exact h.nodup, fun host w => ?_⟩
  · have hne : k ≠ j := by
      rintro rfl
      simp [hf] at hk
    rw [hothers k hne]
    exact ⟨rfl, rfl, rfl, hkept k hk⟩
  · by_cases hk : k = j
    · subst hk
      refine ⟨by rw [hself]; rfl, fun hq => absurd (hqueue ▸ hq) h.notQueued, fun hs => absurd (hengine ▸ hs) h.notSettling⟩
    · exact (h.others k hk).congr (by rw [hothers k hk]; exact ⟨rfl, rfl⟩) (by rw [hqueue]; exact id)
        (by rw [hengine]; exact id)
  · have hold := h.windows host w
    have hwindow : u.window host w = if host = (s.job j).owner then (s.window host w).revert j else s.window host w := by
      rw [heq, State.window]
      dsimp only
      rw [PerHost.get_put]
      split
      · subst host
        simp [State.window, Table.at]
      · rfl
    rw [hwindow]
    split
    · exact hold.revert hothers
    · rename_i hhost
      refine ⟨hold.disabled, hold.limits, fun k hk => ?_⟩
      obtain ⟨hstate, howner⟩ := hold.action k hk
      rw [hothers k (by rintro rfl; exact hhost howner.symm)]
      exact ⟨hstate, howner⟩

/-! ## Runs that end (R13, R16, R17, R18) -/

theorem Job.aborted_state (r : Job) : r.aborted.state = .idle ∨ r.aborted.state = .armed := by
  unfold Job.aborted
  split
  · exact .inl rfl
  · exact .inr rfl

theorem Job.aborted_sameRun (r : Job) : r.SameRun r.aborted := by
  unfold Job.aborted
  split <;> exact ⟨rfl, rfl, rfl, rfl, rfl, by simp⟩

theorem State.endAborted_job (s : State) (j : JobId) : (s.endAborted j).job j = (s.job j).aborted := by
  rw [State.endAborted, State.reportAbort, State.emit_job, State.setJob_job_same]

section Aborted
variable {s : State} {j : JobId} (h : s.FitBut j) (hf : (s.job j).fillFrame = none)
include h

theorem State.FitBut.endAborted_but : (s.endAborted j).FitBut j :=
  (State.emit_sameFit ..).fitBut (h.setJob (s.job j).aborted_sameRun)

include hf

theorem State.FitBut.endAborted : (s.endAborted j).Fit := by
  refine h.endAborted_but.fit ?_
  rw [State.endAborted_job]
  refine Job.aligned_of_none ((s.job j).aborted_sameRun.fillFrame.trans hf) ?_
  rcases (s.job j).aborted_state with hs | hs <;> rw [hs] <;> rfl

theorem State.FitBut.exitAborted : (s.exitAborted j).Fit := by
  unfold State.exitAborted
  dsimp only
  split
  · split
    · refine h.endAborted_but.enterTriggered (r := (s.endAborted j).job j) (.refl _) ?_ _ _
      rw [State.endAborted_job]
      exact (s.job j).aborted_sameRun.fillFrame.trans hf
    · exact h.endAborted hf
  · exact h.endAborted hf

end Aborted

end Sys2Proof.Machine

namespace Sys2Proof.Machine

/-! ## The completion of a step (R10, R13, R18, R55, R154) -/

/-- The engine's records change, and no further job settles. -/
theorem State.Fit.withEngine {s : State} (h : s.Fit) {e : Engine}
    (he : ∀ k, e.settlingJob = some k → s.engine.settlingJob = some k) : ({ s with engine := e } : State).Fit :=
  ⟨(s.sameStock_beside _ _ _).stocked h.stocked, fun k => (h.stands k).congr ⟨rfl, rfl⟩ id (he k), h.nodup,
    fun k w => (h.windows k w).congr fun _ hi => ⟨hi, rfl⟩⟩

theorem State.Fit.released {s : State} (h : s.Fit) : s.releaseConverter.Fit := h.withEngine (by simp)

theorem State.Fit.startStep {s : State} (h : s.Fit) (j : JobId) : (s.startStep j).Fit := by
  unfold State.startStep
  split
  · exact h
  · exact h.withEngine (by simp)

/-! ### A sample is judged (R154, R155, R156) -/

theorem State.SameFit.refl (s : State) : s.SameFit s :=
  ⟨rfl, rfl, rfl, rfl, rfl, rfl, rfl, rfl, rfl, rfl, rfl, rfl⟩

theorem State.SameFit.trans {s t u : State} (h : s.SameFit t) (k : t.SameFit u) : s.SameFit u :=
  ⟨k.jobs.trans h.jobs, k.seqs.trans h.seqs, k.queue.trans h.queue, k.settlingJob.trans h.settlingJob,
    k.transient.trans h.transient, k.frames.trans h.frames, k.pool.trans h.pool, k.allowance.trans h.allowance,
    k.inUse.trans h.inUse, k.delivery.trans h.delivery, k.groups.trans h.groups, k.windows.trans h.windows⟩

theorem State.SameFit.ite {s t u : State} {c : Prop} [Decidable c] (h : s.SameFit t) (k : s.SameFit u) :
    s.SameFit (if c then t else u) := by
  split
  · exact h
  · exact k

theorem State.windowEvent_sameFit (s : State) (r : Window) (zone : Zone) : s.SameFit (s.windowEvent r zone) := by
  unfold State.windowEvent
  split
  · exact .refl s
  · exact .ite ⟨rfl, rfl, rfl, rfl, rfl, rfl, rfl, rfl, rfl, rfl, rfl, rfl⟩ (.refl s)

/-- A judged sample leaves a last zone in an enabled window, and nothing else that the resources see. -/
theorem State.judge_cases (s : State) (j : JobId) (ref : Option WindowId) (index : Nat) (channel : Channel)
    (code : BitVec 12) : ∃ t : State, s.SameFit t ∧ (s.judge j ref index channel code = t ∨
      ∃ w z, (s.window (s.job j).owner w).enabled = true ∧ s.judge j ref index channel code =
        t.setWindow (s.job j).owner w { s.window (s.job j).owner w with lastZone := z }) := by
  cases ref with
  | none => exact ⟨s, .refl s, .inl rfl⟩
  | some w =>
    unfold State.judge
    dsimp only
    split
    · rename_i hw
      exact ⟨_, .trans (.ite (s.emit_sameFit ..) (.refl s)) (State.windowEvent_sameFit _ _ _), .inr ⟨w, _, hw, rfl⟩⟩
    · exact ⟨s, .refl s, .inl rfl⟩

theorem State.window_setWindow (s : State) (h k : HostId) (w i : WindowId) (r : Window) :
    (s.setWindow h w r).window k i = if k = h ∧ i = w then r else s.window k i := by
  rw [State.window, State.setWindow_windows, PerHost.get_put]
  by_cases hk : k = h
  · subst hk
    rw [if_pos rfl, Table.at_put]
    simp [State.window]
  · rw [if_neg hk, if_neg fun hn => hk hn.1]
    rfl

/-- One window is written with a record that is sound for its host. -/
theorem State.windowsSound_setWindow {s : State} (h : ∀ h w, (s.window h w).SoundFor s h) {host : HostId} {w : WindowId}
    {r : Window} (hr : r.SoundFor s host) (k : HostId) (i : WindowId) :
    ((s.setWindow host w r).window k i).SoundFor (s.setWindow host w r) k := by
  rw [State.window_setWindow]
  split
  · rename_i hki
    obtain ⟨rfl, rfl⟩ := hki
    exact hr.congr fun _ hi => ⟨hi, rfl⟩
  · exact (h k i).congr fun _ hi => ⟨hi, rfl⟩

theorem State.Fit.setWindow {s : State} (h : s.Fit) {host : HostId} {w : WindowId} {r : Window}
    (hr : r.SoundFor s host) : (s.setWindow host w r).Fit :=
  ⟨(s.sameStock_beside _ _ _).stocked h.stocked, fun k => (h.stands k).congr ⟨rfl, rfl⟩ id id, h.nodup,
    State.windowsSound_setWindow h.windows hr⟩

/-- A job that advances may do so after its sample was judged. -/
theorem State.Fit.judge_advance {s : State} {j : JobId} (h : (s.advance j).Fit) (ref : Option WindowId) (index : Nat)
    (channel : Channel) (code : BitVec 12) : ((s.judge j ref index channel code).advance j).Fit := by
  obtain ⟨t, ht, hjudged⟩ := s.judge_cases j ref index channel code
  have hadvance : (s.advance j).SameFit (t.advance j) := by
    refine ⟨?_, ht.seqs, ht.queue, ht.settlingJob, ht.transient, ht.frames, ht.pool, ht.allowance, ht.inUse, ht.delivery,
      ht.groups, ht.windows⟩
    rw [State.advance, State.advance, State.setJob_jobs, State.setJob_jobs, ht.job, ht.jobs]
  rcases hjudged with hj | ⟨w, z, hw, hj⟩ <;> rw [hj]
  · exact hadvance.fit h
  · obtain ⟨_, hlimits, haction⟩ := hadvance.windowsSound h.windows (s.job j).owner w
    have hwindow : (t.advance j).window (s.job j).owner w = s.window (s.job j).owner w := by
      change t.window _ _ = _
      rw [State.window, ht.windows]
      rfl
    rw [hwindow] at hlimits haction
    exact (hadvance.fit h).setWindow (host := (s.job j).owner) (w := w)
      ⟨fun hd => absurd hw (by simp [show (s.window (s.job j).owner w).enabled = false from hd]), hlimits, haction⟩

/-! ### A sample is written (R55, R62) -/

/-- A sample in the slot of the run's next step. -/
def Frame.withSample (x : Frame) (n : Nat) (y : Sample) : Frame := { x with samples := x.samples.setIfInBounds n y }

theorem Frame.withSample_at (x : Frame) {n : Nat} (hn : n < 16) (y : Sample) (k : Fin 16) :
    (x.withSample n y).samples.at k = if k.val = n then y else x.samples.at k := by
  have hput : (x.withSample n y).samples = x.samples.put ⟨n, hn⟩ y := by
    simp [Frame.withSample, Table.put, Vector.setIfInBounds, Vector.set, Array.setIfInBounds, hn]
  rw [hput, Table.at_put]
  simp [Fin.ext_iff]

theorem Frame.FillsFor.withSample {x : Frame} {j : JobId} {r : Job} {steps : Nat} (h : x.FillsFor j r steps)
    (hn : r.nextStep < 16) {y : Sample} (hy : y.valid = true) :
    (x.withSample r.nextStep y).FillsFor j { r with nextStep := r.nextStep + 1 } steps := by
  refine ⟨h.state, h.job, h.owner, h.sampleCount, fun k => ?_⟩
  rw [Frame.withSample_at _ hn]
  split
  · simp [hy, ‹k.val = r.nextStep›]
  · rw [h.valid k]
    exact decide_eq_decide.2 (by simp only; omega)

theorem Frame.InOrder.withSample {x : Frame} (h : x.InOrder) {n : Nat} (hn : n < 16) {y : Sample} (hy : y.step = n) :
    (x.withSample n y).InOrder := by
  intro k
  rw [Frame.withSample_at _ hn]
  split
  · exact fun _ => hy.trans ‹k.val = n›.symm
  · exact h k

/-- The sample of a running job, and its next step. -/
theorem State.Fit.writeSample {s : State} (h : s.Fit) {j : JobId} (hf : (s.job j).fillFrame.isSome = true)
    (hn : (s.job j).nextStep < 16) (p : StepInProgress) (code : BitVec 12) (stale : Bool) (zone : Zone) :
    ((s.writeSample j p code stale zone).advance j).Fit := by
  obtain ⟨f, hf⟩ := Option.isSome_iff_exists.1 hf
  have hwritten : s.writeSample j p code stale zone = s.setFrame f ((s.frames.at f).withSample (s.job j).nextStep
      ⟨true, (s.job j).nextStep, p.channel, p.gain, code, stale, zone⟩) := by
    unfold State.writeSample
    rw [hf]
    rfl
  rw [hwritten]
  have hframe := h.stocked.frames f
  have hjobs (k : JobId) : ((State.advance (s.setFrame f ((s.frames.at f).withSample (s.job j).nextStep
      ⟨true, (s.job j).nextStep, p.channel, p.gain, code, stale, zone⟩)) j).job k) =
      if k = j then { s.job j with nextStep := (s.job j).nextStep + 1 } else s.job k := Table.at_put ..
  refine ⟨h.stocked.writeFrame hf (.refl _) ((hframe.filling j hf).withSample hn rfl) (hframe.inOrder.withSample hn rfl),
    fun k => (h.stands k).congr ?_ id id, h.nodup, fun k w => (h.windows k w).congr fun i hi => ?_⟩ <;> rw [hjobs]
  · split
    · subst k
      exact ⟨rfl, rfl⟩
    · exact ⟨rfl, rfl⟩
  · split
    · subst i
      exact ⟨hi, rfl⟩
    · exact ⟨hi, rfl⟩

end Sys2Proof.Machine

namespace Sys2Proof.Machine

/-! ## Boundaries and run ends (R10, R13, R18, R35, R36, R111) -/

/-- A delivered run leaves its groups and stands aside. -/
theorem State.FitBut.delivered {s : State} {j : JobId} (h : s.FitBut j) {f : FrameId}
    (hf : (s.job j).fillFrame = some f) (hnext : (s.job j).nextStep = (s.seqOf j).steps.length) :
    ((s.runDelivered j f).vacate j).FitBut j := by
  have hstocked := h.stocked.vacate (h.stocked.runDelivered hf hnext)
  have hjob (k : JobId) : ((s.runDelivered j f).vacate j).job k =
      if k = j then { s.job j with fillFrame := none, deadlineTimer := none } else s.job k := by
    rw [State.vacate_job]
    exact Table.at_put ..
  have hwindows : ((s.runDelivered j f).vacate j).windows = s.windows := by
    rw [State.vacate_holdsActed]
    rfl
  refine ⟨hstocked, fun k hk => (h.others k hk).congr (by rw [hjob, if_neg hk]; exact ⟨rfl, rfl⟩) ?_ ?_, ?_, ?_, ?_,
    fun k w => ?_⟩
  · rw [State.vacate_queue]
    exact id
  · rw [State.vacate_engine]
    exact id
  · rw [State.vacate_queue]
    exact h.nodup
  · rw [State.vacate_queue]
    exact h.notQueued
  · rw [State.vacate_engine]
    exact h.notSettling
  · rw [State.window, hwindows]
    refine (h.windows k w).congr fun i hi => ?_
    rw [hjob]
    split
    · subst i
      exact ⟨hi, rfl⟩
    · exact ⟨hi, rfl⟩

section Steps
variable {s : State} (h : s.Fit) {j : JobId}
include h

theorem State.Fit.fillFrame_isSome (hs : (s.job j).state.dispatched = true) : (s.job j).fillFrame.isSome = true :=
  (h.stands j).aligned.trans hs

theorem State.Fit.fillFrame_eq_none (hs : (s.job j).state.dispatched = false) : (s.job j).fillFrame = none :=
  (h.stands j).aligned.fillFrame_eq_none hs

theorem State.Fit.completeRun (hs : (s.job j).state = .running)
    (hnext : (s.job j).nextStep = (s.seqOf j).steps.length) : (s.completeRun j).Fit := by
  obtain ⟨f, hf⟩ := Option.isSome_iff_exists.1 (h.fillFrame_isSome (j := j) (by rw [hs]; rfl))
  unfold State.completeRun
  rw [State.deliver_eq hf]
  refine (State.FitBut.endRun ((h.but (by rw [hs]; rfl) (by simp [hs])).delivered hf hnext) ?_).released.freeDecision
  rw [State.vacate_job]
  exact congrArg Job.fillFrame (Table.at_put_same ..)

theorem State.Fit.boundaryDecision (hs : (s.job j).state = .running) : (s.boundaryDecision j).Fit := by
  have hfresh := h.refreshBlocked
  have hstate : (s.refreshBlocked.job j).state = .running := by
    rw [State.refreshBlocked_job]
    split <;> exact hs
  unfold State.boundaryDecision
  dsimp only
  split
  · exact State.Fit.freeDecision (State.Fit.released (State.FitBut.preempt
      (hfresh.but (by rw [hstate]; rfl) (by simp [hstate])) (hfresh.fillFrame_isSome (by rw [hstate]; rfl))))
  · exact hfresh.startStep j

theorem State.Fit.stepOfRun {p : StepInProgress} (hs : (s.job p.job).state = .running)
    (hn : (s.job p.job).nextStep < 16) (code : BitVec 12) (stale : Bool) : (s.stepOfRun p code stale).Fit := by
  have hwritten (zone : Zone) := (h.writeSample (h.fillFrame_isSome (by rw [hs]; rfl)) hn p code stale zone).judge_advance
    (s.windowRef p.job p.index) p.index p.channel code
  unfold State.stepOfRun
  dsimp only
  generalize s.zoneFor (s.job p.job).owner (s.windowRef p.job p.index) code = zone
  have hstate : ((((s.writeSample p.job p code stale zone).judge p.job (s.windowRef p.job p.index) p.index p.channel
      code).advance p.job).job p.job).state = .running := by
    rw [State.advance, State.setJob_job_same,
      ((State.writeSample_sameSchedule ..).trans (State.judge_sameSchedule ..)).job (s := s)]
    exact hs
  split
  · exact (hwritten zone).completeRun hstate ‹_›
  · exact (hwritten zone).boundaryDecision hstate

theorem State.Fit.stoppingExit (hseqs : s.SequencesSound) (hs : (s.job j).state = .stopping)
    (hreason : (s.job j).stopReason.isSome = true) : (s.stoppingExit j).Fit := by
  have haside := (h.but (by rw [hs]; rfl) (by simp [hs])).releaseRun
  have hjob := s.releaseRun_job_same j
  have hf : ((s.releaseRun j).job j).fillFrame = none := by rw [hjob]
  unfold State.stoppingExit
  refine State.Fit.freeDecision (State.Fit.released ?_)
  unfold State.exitStopping
  split
  · exact haside.exitAborted hf
  · exact haside.endRun hf
  · refine haside.freeJob ?_ ?_ hf
    · refine (s.releaseRun_sameSchedule j).sequencesSound (hseqs.congr rfl rfl fun k => ?_)
      rw [State.setJob_job]
      split
      · subst k
        exact ⟨.rfl, rfl⟩
      · exact ⟨.rfl, rfl⟩
    · rw [hjob]
      simp [hs]
  · rename_i hnone
    rw [hjob] at hnone
    simp [show (s.job j).stopReason = none from hnone] at hreason

theorem State.Fit.stepDone (hsched : s.Scheduled) {p : StepInProgress} (hp : s.engine.step = some p) (code : BitVec 12) :
    (s.stepDone p code).Fit := by
  obtain ⟨hagreed, _⟩ := s.scheduled_iff.1 hsched
  have hjob := hagreed.jobs p.job
  have hcounted := h.withEngine (e := s.engine.counted) fun _ => id
  unfold State.stepDone
  rcases hjob.converting.2 (by simp [hp]) with hs | hs <;> simp only [hs]
  · have hnext := hjob.nextStep (.inr (.inl hs))
    have hlength : (s.seqOf p.job).steps.length ≤ 16 := by
      obtain ⟨_, hundef, hdefined, _⟩ := hagreed.seqs.1 (s.job p.job).seq
      cases hd : (s.seqs.at (s.job p.job).seq).defined with
      | false => rw [State.seqOf, (hundef hd).1]; exact Nat.zero_le _
      | true => exact (hdefined hd).2
    exact hcounted.stepOfRun hs (show (s.job p.job).nextStep < 16 by omega) code _
  · refine hcounted.stoppingExit ?_ hs (hjob.sound.stopReason_isSome_iff.2 hs)
    exact hagreed.seqs.congr rfl rfl fun _ => ⟨.rfl, rfl⟩

theorem State.Fit.stepComplete (hsched : s.Scheduled) (code : BitVec 12) : (s.stepComplete code).Fit := by
  unfold State.stepComplete
  split
  · exact h
  · split
    · exact h.stepDone hsched ‹_› code
    · exact h

end Steps

/-! ## Calibration, settling and leases (R9, R119, R120, R132, R142) -/

theorem State.SameFit.foldl {α : Type} {f : State → α → State} (h : ∀ (t : State) (x : α), t.SameFit (f t x)) (l : List α)
    (s : State) : s.SameFit (l.foldl f s) := by
  induction l generalizing s with
  | nil => exact .refl s
  | cons x xs ih => exact (h s x).trans (ih _)

theorem State.emitAll_sameFit (s : State) (b : EventBody) : s.SameFit (s.emitAll b) :=
  ((s.emit_sameFit ..).trans (State.emit_sameFit ..)).trans (State.emit_sameFit ..)

theorem State.reportCalDone_sameFit (s : State) : s.SameFit s.reportCalDone :=
  .foldl (fun t _ => .ite (t.emit_sameFit ..) (.refl t)) _ s

/-- A calibration completes: records are queued and the engine's counts change. -/
theorem State.Fit.calibrated {s t : State} (h : s.Fit) (ht : s.SameFit t) {e : Engine}
    (he : e.settlingJob = s.engine.settlingJob) : ({ t with engine := e } : State).Fit :=
  (ht.fit h).withEngine fun k hk => by rw [ht.settlingJob, ← he]; exact hk

/-- A group record is rewritten with its occupants kept. -/
theorem State.Fit.setGroup {s : State} (h : s.Fit) {g : GroupId} {r : Group}
    (hocc : r.occupants = (s.groups.at g).occupants) (hlease : r.state ≠ .free → 1 ≤ r.lease ∧ r.lease ≤ 255)
    (hheld : r.state = .held → s.foreignOccupants g r.host = 0)
    (hpending : r.state = .pending → 0 < s.foreignOccupants g r.host) : (s.setGroup g r).Fit :=
  ⟨h.stocked.setGroup hocc hlease hheld hpending, fun k => (h.stands k).congr ⟨rfl, rfl⟩ id id, h.nodup,
    fun k w => (h.windows k w).congr fun _ hi => ⟨hi, rfl⟩⟩

section Engine
variable {s : State} (h : s.Fit)
include h

theorem State.Fit.calPass : s.calPass.Fit := by
  have ht := s.reportCalDone_sameFit
  unfold State.calPass
  exact h.calibrated (.ite (ht.trans (State.emitAll_sameFit ..)) ht) rfl

theorem State.Fit.calFail : s.calFail.Fit := by
  have ht (b : EventBody) := s.emitAll_sameFit b
  unfold State.calFail
  exact h.calibrated (.ite ((ht _).trans (State.emitAll_sameFit ..)) (ht _)) rfl

theorem State.Fit.calComplete (result : CalResult) : (s.calComplete result).Fit := by
  unfold State.calComplete
  split
  · cases result with
    | pass => exact h.calPass.freeDecision
    | fail => exact h.calFail.freeDecision
  · exact h

/-- The settling job enters RUNNING (R9). -/
theorem State.Fit.run {j : JobId} (hj : s.engine.settlingJob = some j) {x : SeqStep}
    (hx : (s.seqOf j).steps[(s.job j).nextStep]? = some x) : (s.run j).Fit := by
  have hs := (h.stands j).settling hj
  have haside := (h.releaseConverter (j := j) (by rw [hs]; rfl)).setJob
    (r := { s.job j with state := .running }) ⟨rfl, rfl, rfl, rfl, rfl, by simp⟩
  rw [State.run_eq hx]
  refine State.Fit.withEngine (haside.fit ?_) (e := s.engine.starting j (s.job j).nextStep x s.timeBase) (by
    simp [Engine.starting])
  rw [State.setJob_job_same]
  exact h.fillFrame_isSome (by rw [hs]; rfl)

theorem State.Fit.settle (hsched : s.Scheduled) : s.settle.Fit := by
  obtain ⟨hagreed, _⟩ := s.scheduled_iff.1 hsched
  unfold State.settle
  split
  · exact h
  · rename_i l _
    have ht : s.SameFit { s with exc := { s.exc with settled := l, target := none } } :=
      ⟨rfl, rfl, rfl, rfl, rfl, rfl, rfl, rfl, rfl, rfl, rfl, rfl⟩
    have hsettled := ht.fit h
    split
    · unfold State.settledReport
      split
      · split
        · exact hsettled
        · rename_i j hj
          have hs := (h.stands j).settling hj
          split
          · exact hsettled.run hj (List.getElem?_eq_getElem ((hagreed.jobs j).nextStep (.inl hs)))
          · exact hsettled
      · exact hsettled.arrival
    · exact h

/-- A group becomes FREE and keeps its occupants (R142, R144, R145). -/
theorem State.Fit.freeGroup (g : GroupId) : (s.freeGroup g).Fit := h.setGroup rfl (by simp) (by simp) (by simp)

theorem State.Fit.leaseReached (g : GroupId) : (s.leaseReached g).Fit := by
  unfold State.leaseReached
  dsimp only
  split
  · exact ((State.emit_sameFit ..).fit (h.freeGroup g)).arrival
  · exact h

end Engine

/-! ## Deadline expiries (R16, R46) -/

section Late
variable {s : State} (h : s.Fit) {j : JobId}
include h

theorem State.Fit.reportLate : (s.reportLate j).Fit :=
  (State.emit_sameFit ..).fit (h.setJob_state (r := { s.job j with deadlineTimer := none }) ⟨rfl, rfl, rfl, rfl, rfl, id⟩ rfl)

/-- A late run is kept and marked. -/
theorem State.Fit.lateMarked :
    ((s.reportLate j).setJob j { (s.reportLate j).job j with deadlineMissed := true }).Fit :=
  h.reportLate.setJob_state ⟨rfl, rfl, rfl, rfl, rfl, id⟩ rfl

theorem State.Fit.lateInHand {drop : State → State}
    (hdrop : ∀ t : State, t.Fit → t.job j = { s.job j with deadlineTimer := none } → (drop t).Fit) :
    (s.lateInHand j drop).Fit := by
  unfold State.lateInHand
  dsimp only
  split
  · exact h.lateMarked
  · exact hdrop _ h.reportLate (s.reportLate_job_same j)

theorem State.Fit.dropPending (hs : (s.job j).state = .pending) : (s.dropPending (fun u => u.expireAtOnce j) j).Fit := by
  have haside := (h.dequeue (j := j) (by simp [hs])).setJob (r := { (s.dequeue j).job j with
    runNumber := ((s.dequeue j).job j).runNumber + 1 }) ⟨rfl, rfl, rfl, rfl, rfl, id⟩
  refine haside.endRun ?_
  rw [State.setJob_job_same, State.dequeue_job_same]
  exact h.fillFrame_eq_none (by rw [hs]; rfl)

theorem State.Fit.lateInQueue (hs : (s.job j).state = .pending) : (s.lateInQueue j).Fit := by
  have hlate : (s.latePending (fun u => u.expireAtOnce j) j).Fit := by
    cases hl : (s.job j).late with
    | keep =>
      rw [State.latePending_of_keep _ hl]
      exact h.lateMarked
    | drop =>
      rw [State.latePending_of_drop _ hl]
      exact h.reportLate.dropPending (by rw [State.reportLate_job_same]; exact hs)
  unfold State.lateInQueue
  dsimp only
  split
  · exact hlate.entryArrival _
  · exact hlate

/-- A settling run gives back what it holds, and the converter. -/
theorem State.Fit.leaveConverter (hs : (s.job j).state = .settling) : ((s.releaseRun j).releaseConverter).FitBut j := by
  have hleft := (h.releaseConverter (j := j) (by rw [hs]; rfl)).releaseRun_withEngine (s := s)
  rwa [← s.releaseRun_engine j] at hleft

theorem State.Fit.dropSettling (hs : (s.job j).state = .settling) : (s.dropSettling j).Fit := by
  have hjob : (s.releaseRun j).releaseConverter.job j = { s.job j with fillFrame := none, deadlineTimer := none } :=
    s.releaseRun_job_same j
  exact State.Fit.freeDecision ((h.leaveConverter hs).endRun (by rw [hjob]))

theorem State.Fit.dropPreempted (hs : (s.job j).state = .preempted) : (s.dropPreempted j).Fit :=
  State.Fit.arrival ((h.dequeue (by simp [hs])).releaseRun.endRun (congrArg Job.fillFrame (State.releaseRun_job_same _ j)))

theorem State.Fit.lateBy : (s.lateBy j).Fit := by
  unfold State.lateBy
  split
  · exact h.lateInQueue ‹_›
  · rename_i hs
    exact h.lateInHand fun t ht hjob => ht.dropSettling (by rw [hjob]; exact hs)
  · rename_i hs
    refine h.lateInHand fun t ht hjob => ?_
    have hrunning : (t.job j).state = .running := by rw [hjob]; exact hs
    exact ht.setJob ⟨rfl, rfl, rfl, rfl, rfl, by simp⟩ (by rw [hrunning]; rfl) (by rw [hrunning]; simp [JobState.queued])
      (by simp [hrunning])
  · rename_i hs
    exact h.lateInHand fun t ht hjob => ht.dropPreempted (by rw [hjob]; exact hs)
  · exact h.setJob_state (r := { s.job j with deadlineTimer := none }) ⟨rfl, rfl, rfl, rfl, rfl, id⟩ rfl
  all_goals exact h

theorem State.Fit.deadlineReached : (s.deadlineReached j).Fit := by
  unfold State.deadlineReached
  split
  · exact h.lateBy
  · exact h

end Late

end Sys2Proof.Machine

namespace Sys2Proof.Machine

/-! ## Job commands keep the resources (R4, R5, R17, R19, R20) -/

/-- A block of the command table whose reply to every scheduled state keeps the resources. -/
def KeepsFit (block : State → Reply) : Prop := ∀ s : State, s.Scheduled → s.Fit → (block s).state.Fit

/-- A job at rest changes its record at rest. -/
theorem State.Fit.setJob_rest {s : State} (h : s.Fit) {j : JobId} {r : Job} (hs : (s.job j).state.place = .rest)
    (hplace : r.state.place = .rest) (hr : (s.job j).SameRun r) : (s.setJob j r).Fit := by
  have hnot (st : JobState) (hst : st.place = .rest) : st.dispatched = false ∧ st.queued = false ∧ st ≠ .settling := by
    cases st <;> simp [JobState.place] at hst <;> decide
  obtain ⟨hd, hq, hset⟩ := hnot _ hs
  exact h.setJob hr ((hnot _ hplace).1.trans hd.symm) (by simp [hq]) fun hn => absurd hn hset

theorem State.Fit.armJob (j : JobId) : KeepsFit (State.armJob j) := by
  intro s _ h
  have harm (hs : (s.job j).state.place = .rest) : (s.setJob j ((s.job j).arm s.timeBase)).Fit :=
    h.setJob_rest hs rfl ⟨rfl, rfl, rfl, rfl, rfl, fun _ => by simp [Job.arm]⟩
  unfold State.armJob
  split
  · exact harm (by simp [‹_›]; rfl)
  · exact harm (by simp [‹_›]; rfl)
  all_goals exact h

theorem State.Fit.disarmJob (j : JobId) : KeepsFit (State.disarmJob j) := by
  intro s _ h
  have hidle (hs : (s.job j).state.place = .rest) : (s.setJob j { s.job j with state := .idle, periodTimer := none }).Fit :=
    h.setJob_rest hs rfl ⟨rfl, rfl, rfl, rfl, rfl, by simp⟩
  have hbusy : (s.setJob j { s.job j with disarmPending := true, latch := none }).Fit :=
    h.setJob_state ⟨rfl, rfl, rfl, rfl, rfl, id⟩ rfl
  unfold State.disarmJob
  dsimp only
  split
  · exact hidle (by simp [‹_›]; rfl)
  · exact hidle (by simp [‹_›]; rfl)
  · rename_i hs
    refine ((h.dequeue (by simp [hs])).setJob (r := { (s.dequeue j).job j with
      state := .idle, latch := none, deadlineTimer := none, periodTimer := none })
      ⟨rfl, rfl, rfl, rfl, rfl, by simp⟩).fit ?_
    rw [State.setJob_job_same, State.dequeue_job_same]
    exact Job.aligned_of_none (h.fillFrame_eq_none (by rw [hs]; rfl)) rfl
  iterate 4 exact hbusy
  all_goals exact h

theorem State.Fit.startJob (j : JobId) : KeepsFit (State.startJob j) := by
  intro s _ h
  unfold State.startJob
  split
  iterate 3 exact h
  all_goals exact h.takeTrigger ..

section Abort
variable {s : State} (h : s.Fit) {j : JobId}
include h

theorem State.Fit.abortPending (hs : (s.job j).state = .pending) :
    ((((s.dequeue j).cancelDeadline j).setJob j
      { ((s.dequeue j).cancelDeadline j).job j with state := .armed }).reportAbort j).Fit := by
  have hcancelled := (h.dequeue (by simp [hs])).setJob (r := { (s.dequeue j).job j with deadlineTimer := none })
    ⟨rfl, rfl, rfl, rfl, rfl, id⟩
  refine (State.emit_sameFit ..).fit ((hcancelled.setJob (r := { ((s.dequeue j).cancelDeadline j).job j with
    state := .armed }) ⟨rfl, rfl, rfl, rfl, rfl, by simp⟩).fit ?_)
  rw [State.setJob_job_same, State.cancelDeadline, State.setJob_job_same, State.dequeue_job_same]
  exact Job.aligned_of_none (h.fillFrame_eq_none (by rw [hs]; rfl)) rfl

theorem State.Fit.abortSettling (hs : (s.job j).state = .settling) :
    (((s.releaseRun j).releaseConverter).endAborted j).Fit := by
  have hjob : (s.releaseRun j).releaseConverter.job j = { s.job j with fillFrame := none, deadlineTimer := none } :=
    s.releaseRun_job_same j
  exact (h.leaveConverter hs).endAborted (by rw [hjob])

theorem State.Fit.abortPreempted (hs : (s.job j).state = .preempted) : (((s.dequeue j).releaseRun j).endAborted j).Fit :=
  (h.dequeue (by simp [hs])).releaseRun.endAborted (by rw [State.releaseRun_job_same])

/-- A run whose step is in progress stops (R17, R23). -/
theorem State.Fit.stopping (hs : (s.job j).state = .running ∨ (s.job j).state = .stopping) {r : Job}
    (hr : (s.job j).SameRun r) (hstop : r.state = .stopping) : (s.setJob j r).Fit := by
  refine h.setJob hr ?_ ?_ ?_ <;> rw [hstop] <;> rcases hs with hs | hs <;> simp [hs, JobState.dispatched, JobState.queued]

end Abort

theorem State.Fit.abortJob (j : JobId) : KeepsFit (State.abortJob j) := by
  intro s _ h
  have hc : (s.setJob j { s.job j with latch := none }).Fit := h.setJob_state ⟨rfl, rfl, rfl, rfl, rfl, id⟩ rfl
  have hjob : (s.setJob j { s.job j with latch := none }).job j = { s.job j with latch := none } :=
    s.setJob_job_same j _
  unfold State.abortJob
  dsimp only
  generalize s.setJob j { s.job j with latch := none } = c at *
  have hstate : (c.job j).state = (s.job j).state := by rw [hjob]
  split
  · exact hc.abortPending (hstate.trans ‹_›)
  · exact (hc.abortSettling (hstate.trans ‹_›)).freeDecision
  · exact (hc.abortPreempted (hstate.trans ‹_›)).arrival
  · exact hc.stopping (.inl (hstate.trans ‹_›)) ⟨rfl, rfl, rfl, rfl, rfl, by simp⟩ rfl
  · exact hc.setJob_state ⟨rfl, rfl, rfl, rfl, rfl, id⟩ rfl
  all_goals exact h

theorem State.Fit.deleteJob (j : JobId) : KeepsFit (State.deleteJob j) := by
  intro s hsched h
  have hfree (hs : (s.job j).state.place = .rest) : (s.freeJob j).Fit := by
    have hrest : (s.job j).state ≠ .free ∧ (s.job j).state ≠ .settling ∧ (s.job j).state.queued = false ∧
        (s.job j).state.dispatched = false := by
      cases hst : (s.job j).state <;> simp [hst, JobState.place] at hs <;> decide
    obtain ⟨hnamed, hset, hq, hd⟩ := hrest
    exact (h.but hq hset).freeJob (s.scheduled_iff.1 hsched).1.seqs hnamed (h.fillFrame_eq_none hd)
  unfold State.deleteJob
  split
  · exact hfree (by simp [‹_›]; rfl)
  · exact hfree (by simp [‹_›]; rfl)
  all_goals exact h

/-! ### Sequence commands and CREATE_JOB (R4, R100, R101) -/

/-- A sequence record changes that no job names, or that keeps what its jobs hold. -/
theorem State.Fit.putSeq {s t : State} (h : s.Fit) {k : SeqId} {r : Seq} (hseqs : t.seqs = s.seqs.put k r)
    (hr : s.namers k = 0 ∨ r.steps = (s.seqs.at k).steps ∧ r.minimum = (s.seqs.at k).minimum)
    (ht : s.SameFit { t with seqs := s.seqs }) : t.Fit := by
  have hjob (i : JobId) : t.job i = s.job i := by rw [State.job, show t.jobs = s.jobs from ht.jobs]; rfl
  have hkept (i : JobId) (hi : (s.job i).fillFrame.isSome = true) :
      (t.seqOf i).steps = (s.seqOf i).steps ∧ (t.seqOf i).minimum = (s.seqOf i).minimum := by
    have hnamed : (s.job i).state ≠ .free := by
      intro hs
      have := h.fillFrame_eq_none (j := i) (by rw [hs]; rfl)
      simp [this] at hi
    rw [State.seqOf, hjob, hseqs, Table.at_put]
    split
    · rename_i hik
      rcases hr with hnone | hr
      · exact absurd hik (State.seq_ne_of_namers hnone hnamed)
      · rw [State.seqOf, hik]
        exact hr
    · exact ⟨rfl, rfl⟩
  refine ⟨State.SameStock.stocked ⟨ht.frames, ht.pool, ht.allowance, ht.inUse, ht.delivery, ht.groups, ht.transient,
    fun i => by rw [hjob], fun i hi => by rw [hjob]; exact ⟨rfl, rfl, rfl, hkept i hi⟩⟩ h.stocked,
    fun i => (h.stands i).congr (by rw [hjob]; exact ⟨rfl, rfl⟩) (by rw [show t.queue = s.queue from ht.queue]; exact id)
      (by rw [show t.engine.settlingJob = _ from ht.settlingJob]; exact id),
    by rw [show t.queue = s.queue from ht.queue]; exact h.nodup, fun host w => ?_⟩
  rw [State.window, show t.windows = s.windows from ht.windows]
  exact (h.windows host w).congr fun i hi => by rw [hjob]; exact ⟨hi, rfl⟩

theorem State.SequencesSound.namers_of_undefined {s : State} (h : s.SequencesSound) {k : SeqId}
    (hd : (s.seqs.at k).defined = false) : s.namers k = 0 := by
  obtain ⟨_, hundef, _⟩ := h.1 k
  exact (hundef hd).2

theorem State.SequencesSound.namers_of_unreferenced {s : State} (h : s.SequencesSound) {k : SeqId}
    (hr : ¬ 0 < (s.seqs.at k).refCount) : s.namers k = 0 := by
  obtain ⟨hcount, _⟩ := h.1 k
  omega

theorem State.Fit.defineSeq (host : HostId) (a : SeqArgs) : KeepsFit fun s => s.defineSeq host a := by
  intro s hsched h
  have hdefine (k : SeqId) (hk : s.namers k = 0) : (s.defineAt host a k).state.Fit := by
    unfold State.defineAt
    split
    · exact h
    · exact h.putSeq (k := k) rfl (.inl hk) ⟨rfl, rfl, rfl, rfl, rfl, rfl, rfl, rfl, rfl, rfl, rfl, rfl⟩
  have hseqs := (s.scheduled_iff.1 hsched).1.seqs
  dsimp only
  unfold State.defineSeq
  split
  · split
    · exact h
    · rename_i k hk
      exact hdefine k (hseqs.namers_of_undefined (by simpa using List.find?_some hk))
  · dsimp only
    split
    · exact hdefine _ (hseqs.namers_of_undefined ‹_›)
    · split
      · exact h
      · split
        · exact h
        · exact hdefine _ (hseqs.namers_of_unreferenced ‹_›)

theorem State.Fit.freeSeq {s : State} (h : s.Fit) {k : SeqId} (hk : s.namers k = 0) : (s.freeSeq k).Fit :=
  h.putSeq (k := k) rfl (.inl hk) ⟨rfl, rfl, rfl, rfl, rfl, rfl, rfl, rfl, rfl, rfl, rfl, rfl⟩

theorem State.Fit.deleteSeq (host : HostId) (k : SeqId) : KeepsFit (State.deleteSeq host k) := by
  intro s hsched h
  unfold State.deleteSeq
  dsimp only
  split
  · exact h
  · split
    · exact h
    · exact h.freeSeq ((s.scheduled_iff.1 hsched).1.seqs.namers_of_unreferenced ‹_›)

theorem State.Fit.readSeq (host : HostId) (k : SeqId) : KeepsFit (State.readSeq host k) := by
  intro s _ h
  unfold State.readSeq
  dsimp only
  split <;> exact h

/-- A FREE record is filled; no frame is its job's, and no window names it. -/
theorem State.Fit.create {s : State} (h : s.Fit) {j : JobId} (hfree : (s.job j).state = .free) (host : HostId)
    (a : JobArgs) : (s.create host a j).Fit := by
  have hf := h.fillFrame_eq_none (j := j) (by rw [hfree]; rfl)
  obtain ⟨_, hqueued, hsettling⟩ := h.stands j
  rw [hfree] at hqueued hsettling
  have hjob (i : JobId) : (s.setJob j (newJob host a)).job i = if i = j then newJob host a else s.job i := s.setJob_job ..
  have hothers (i : JobId) (hi : i ≠ j) : (s.setJob j (newJob host a)).job i = s.job i := (hjob i).trans (if_neg hi)
  have hset : (s.setJob j (newJob host a)).Fit := by
    refine ⟨State.SameStock.stocked (s := s) ⟨rfl, rfl, rfl, rfl, rfl, rfl, rfl, fun k => ?_, fun k hk => ?_⟩ h.stocked,
      fun k => ?_, h.nodup, fun k w => (h.windows k w).congr fun i hi => ?_⟩
    · by_cases hk : k = j
      · rw [hjob, if_pos hk, hk, hf]
        rfl
      · rw [hothers k hk]
    · have hne : k ≠ j := by
        rintro rfl
        simp [hf] at hk
      rw [State.seqOf, hothers k hne]
      exact ⟨rfl, rfl, rfl, rfl, rfl⟩
    · by_cases hk : k = j
      · subst hk
        refine ⟨by rw [hjob, if_pos rfl]; rfl, fun hq => ?_, fun hs => ?_⟩
        · cases hqueued hq
        · cases hsettling hs
      · exact (h.stands k).congr (by rw [hothers k hk]; exact ⟨rfl, rfl⟩) id id
    · have hne : i ≠ j := by
        rintro rfl
        exact hi hfree
      rw [hothers i hne]
      exact ⟨hi, rfl⟩
  exact hset.putSeq (k := a.seq) rfl (.inr ⟨rfl, rfl⟩) ⟨rfl, rfl, rfl, rfl, rfl, rfl, rfl, rfl, rfl, rfl, rfl, rfl⟩

theorem State.Fit.createJob (host : HostId) (a : JobArgs) : KeepsFit fun s => s.createJob host a := by
  intro s _ h
  unfold State.createJob
  dsimp only
  split
  · exact h
  · split
    · exact h
    · split
      · exact h
      · rename_i hj
        exact h.create (by simpa using List.find?_some hj) host a

/-! ### The other blocks' commands (R67, R68, R127, R140 to R144, R152, R153) -/

/-- Frames at the head of a host's delivery queue return to the pool. -/
theorem State.Fit.returned {s : State} (h : s.Fit) {k : HostId} {l rest : List FrameId}
    (hl : s.delivery.get k = l ++ rest) : ({ s.withReturned k l with delivery := s.delivery.put k rest } : State).Fit :=
  ⟨h.stocked.returned hl, fun k => (h.stands k).congr ⟨rfl, rfl⟩ id id, h.nodup,
    fun k w => (h.windows k w).congr fun _ hi => ⟨hi, rfl⟩⟩

theorem State.Fit.flushDelivery {s : State} (h : s.Fit) (host : HostId) : (s.flushDelivery host).Fit := by
  rw [State.flushDelivery_eq]
  exact h.returned (List.append_nil _).symm

theorem State.Fit.fetchFrame (host : HostId) : KeepsFit (State.fetchFrame host) := by
  intro s _ h
  unfold State.fetchFrame
  split
  · exact h
  · rename_i f rest hd
    exact State.Fit.arrival (h.returned (l := [f]) hd)

theorem State.Fit.flushFrames (host : HostId) : KeepsFit (State.flushFrames host) := by
  intro s _ h
  unfold State.flushFrames
  split
  · exact h
  · exact (h.flushDelivery host).arrival

theorem State.Fit.acquireHold (host : HostId) {lease : Nat} (hl : lease ≤ 255) (g : GroupId) :
    KeepsFit (State.acquireHold host lease g) := by
  intro s _ h
  unfold State.acquireHold
  dsimp only
  split
  · exact h
  · have hrange : 1 ≤ lease ∧ lease ≤ 255 := ⟨by omega, hl⟩
    split
    · exact h
    · split
      · exact h
      · unfold State.takeGroup
        split
        · exact State.Fit.arrival (h.setGroup rfl (fun _ => hrange) (fun _ => ‹_›) (by simp))
        · exact State.Fit.arrival (h.setGroup rfl (fun _ => hrange) (by simp) fun _ => Nat.pos_of_ne_zero ‹_›)

theorem State.Fit.renewHold (host : HostId) (g : GroupId) : KeepsFit (State.renewHold host g) := by
  intro s _ h
  obtain ⟨hlease, hheld, _⟩ := h.stocked.holds g
  unfold State.renewHold
  dsimp only
  split
  · rename_i hs
    refine h.setGroup rfl hlease (fun hst => ?_) (by simp [hs.1])
    rw [State.foreignOccupants_eq_zero_iff]
    exact hheld hst
  · exact h

theorem State.Fit.releaseHold (host : HostId) (g : GroupId) : KeepsFit (State.releaseHold host g) := by
  intro s _ h
  unfold State.releaseHold
  dsimp only
  split
  · exact (h.freeGroup g).arrival
  · exact h

theorem State.setStanding_sameFit (s : State) (host : HostId) (l : Level) : s.SameFit (s.setStanding host l) :=
  ⟨rfl, rfl, rfl, rfl, Excitation.recompute_transient .., rfl, rfl, rfl, rfl, rfl, rfl, rfl⟩

theorem State.Fit.claimExc (host : HostId) (l : Level) : KeepsFit (State.claimExc host l) := by
  intro s _ h
  unfold State.claimExc
  split
  · exact h
  · exact ((s.setStanding_sameFit host l).fit h).arrival

theorem State.Fit.requestCal (host : HostId) : KeepsFit (State.requestCal host) := by
  intro s _ h
  unfold State.requestCal
  split
  · exact h
  · exact State.Fit.arrival (h.withEngine fun _ => id)

theorem State.setRequest_sameFit (s : State) (host : HostId) (n : Option Nat) : s.SameFit (s.setRequest host n) :=
  ⟨rfl, rfl, rfl, rfl, rfl, rfl, rfl, rfl, rfl, rfl, rfl, rfl⟩

theorem State.Fit.setCalInterval (host : HostId) (n : Nat) : KeepsFit (State.setCalInterval host n) := by
  intro s _ h
  have ht (r : Option Nat) := (s.setRequest_sameFit host r).fit h
  unfold State.setCalInterval
  dsimp only
  split
  · exact h
  · dsimp only [State.answer]
    generalize (if n = 0 then none else some n) = r
    split
    · exact ht r
    · exact (ht r).intervalArrival

theorem State.Fit.readEvents (host : HostId) (n : Nat) : KeepsFit (State.readEvents host n) := by
  intro s _ h
  unfold State.readEvents
  dsimp only
  split
  · exact h
  · split
    · exact h
    · exact State.SameFit.fit (s := s) ⟨rfl, rfl, rfl, rfl, rfl, rfl, rfl, rfl, rfl, rfl, rfl, rfl⟩ h

theorem windowArgs_limits {args : List Byte} {a : WindowArgs} (h : windowArgs args = some a) : a.low ≤ a.high := by
  unfold windowArgs at h
  split at h
  · simp at h
  · simp only [Option.bind_eq_bind, Option.bind_eq_some_iff] at h
    obtain ⟨_, _, _, _, _, _, _, _, h⟩ := h
    split at h
    · simp at h
    · rename_i hle
      cases h
      exact BitVec.not_lt.1 hle

/-- SET_WINDOW loads limits in order, and an action on a job of the caller (R152). -/
theorem State.Fit.loadWindow {s : State} (h : s.Fit) {host : HostId} {a : WindowArgs} (ha : a.low ≤ a.high)
    (hallowed : s.actionAllowed host a.action = true) : (s.loadWindow host a).Fit := by
  refine h.setWindow ⟨by simp, fun _ => ha, fun j hj => ?_⟩
  dsimp only at hj
  rw [hj, State.actionAllowed] at hallowed
  simp only [Bool.and_eq_true, Bool.not_eq_true', beq_iff_eq, Job.gone, Bool.or_eq_false_iff, beq_eq_false_iff_ne] at hallowed
  exact ⟨hallowed.1.1, hallowed.2⟩

theorem Window.disabled_soundFor (s : State) (host : HostId) : Window.disabled.SoundFor s host :=
  ⟨fun _ => ⟨rfl, rfl⟩, by simp [Window.disabled], by simp [Window.disabled]⟩

theorem State.Fit.clearWindow {s : State} (h : s.Fit) (host : HostId) (w : WindowId) : (s.clearWindow host w).Fit := by
  unfold State.clearWindow
  split
  · exact h.setWindow (Window.disabled_soundFor s host)
  · exact h

end Sys2Proof.Machine

namespace Sys2Proof.Machine

/-! ## HOST_RESET keeps the resources (R72, R105, R149, R183) -/

/-- A teardown of one job keeps the schedule. -/
theorem State.Scheduled.torn {s : State} (h : s.Scheduled) (j : JobId) : (s.tearJob j).Scheduled := by
  obtain ⟨hagreed, hengine⟩ := h.tearJob j
  refine (State.scheduled_iff _).2 ⟨hagreed, ?_⟩
  rw [hengine]
  split
  · exact s.engine.released_shaped
  · exact (s.scheduled_iff.1 h).2

theorem State.Fit.tearJob {s : State} (hsched : s.Scheduled) (h : s.Fit) (j : JobId) : (s.tearJob j).Fit := by
  obtain ⟨hagreed, _⟩ := s.scheduled_iff.1 hsched
  rcases (s.job j).state.torn_cases with hs | hs | hs | hs | hs
  · rw [State.tearJob_of_free hs]
    exact h
  · rw [State.tearJob_of_converting hs]
    exact h.stopping hs ⟨rfl, rfl, rfl, rfl, rfl, by simp⟩ rfl
  · rw [State.tearJob_of_settling hs]
    have haside := (hsched.releaseRun j).but_of_settling (j := j) (by rw [s.releaseRun_job_same]; exact hs)
    exact (h.leaveConverter hs).freeJob haside.seqs haside.named (congrArg Job.fillFrame (s.releaseRun_job_same j))
  · rw [State.tearJob_of_preempted hs]
    have haside := (hagreed.but_of_dequeue (.inr (by rw [hs]; rfl))).releaseRun
    exact (h.dequeue (by simp [hs])).releaseRun.freeJob haside.seqs haside.named (by rw [State.releaseRun_job_same])
  · rw [State.tearJob_of_waiting hs]
    have haside := hagreed.but_of_dequeue (hs.imp_right And.left)
    have hidle : (s.job j).state ≠ .settling ∧ (s.job j).state.dispatched = false := by
      cases hst : (s.job j).state <;> simp [hst, JobState.place] at hs <;> decide
    refine (h.dequeue hidle.1).freeJob haside.seqs haside.named ?_
    rw [State.dequeue_job_same]
    exact h.fillFrame_eq_none hidle.2

theorem State.Fit.tearSeq {s : State} (hseqs : s.SequencesSound) (h : s.Fit) (host : HostId) (k : SeqId) :
    (State.tearSeq host s k).Fit := by
  unfold State.tearSeq
  dsimp only
  split
  · split
    · exact h.freeSeq (hseqs.namers_of_unreferenced (by omega))
    · exact h.putSeq (k := k) rfl (.inr ⟨rfl, rfl⟩) ⟨rfl, rfl, rfl, rfl, rfl, rfl, rfl, rfl, rfl, rfl, rfl, rfl⟩
  · exact h

theorem State.Fit.tearGroup {s : State} (h : s.Fit) (host : HostId) (g : GroupId) : (State.tearGroup host s g).Fit := by
  unfold State.tearGroup
  split
  · exact h.freeGroup g
  · exact h

theorem State.Fit.tearRecords {s : State} (h : s.Fit) (host : HostId) : (s.tearRecords host).Fit := by
  refine ⟨(s.sameStock_beside _ _ _).stocked h.stocked, fun k => (h.stands k).congr ⟨rfl, rfl⟩ id id, h.nodup, fun k w => ?_⟩
  change (((s.windows.put host (Vector.replicate 4 Window.disabled)).get k).at w).SoundFor _ k
  rw [PerHost.get_put]
  split
  · rw [Table.at_replicate]
    exact Window.disabled_soundFor _ _
  · exact (h.windows k w).congr fun _ hi => ⟨hi, rfl⟩

theorem State.drawnFor_sameFit {α : Type} (s : State) (l : List α) : s.SameFit (s.drawnFor l) :=
  .ite (.refl s) s.drawn_sameFit

theorem State.drawnFor_scheduled {α : Type} {s : State} (h : s.Scheduled) (l : List α) : (s.drawnFor l).Scheduled := by
  obtain ⟨hagreed, hshape⟩ := s.scheduled_iff.1 h
  have ht := s.drawnFor_sameSchedule l
  exact (State.scheduled_iff _).2 ⟨ht.agreed hagreed, by rw [ht.engine]; exact hshape⟩

theorem State.Fit.tearJobs {s : State} (hsched : s.Scheduled) (h : s.Fit) (host : HostId) :
    (s.tearJobs host).Scheduled ∧ (s.tearJobs host).Fit := by
  unfold State.tearJobs
  dsimp only
  exact List.foldlRecOn (motive := fun t : State => t.Scheduled ∧ t.Fit) _ _
    ⟨State.drawnFor_scheduled hsched _, (s.drawnFor_sameFit _).fit h⟩
    fun t ⟨hs, ht⟩ j _ => ⟨hs.torn j, State.Fit.tearJob hs ht j⟩

theorem State.Fit.tearSeqs {s : State} (hsched : s.Scheduled) (h : s.Fit) (host : HostId) :
    (allSeqs.foldl (State.tearSeq host) s).Fit := by
  have hall : (allSeqs.foldl (State.tearSeq host) s).Agreed ∧ (allSeqs.foldl (State.tearSeq host) s).Fit :=
    List.foldlRecOn (motive := fun t : State => t.Agreed ∧ t.Fit) _ _ ⟨(s.scheduled_iff.1 hsched).1, h⟩
      fun t ⟨ha, ht⟩ k _ => ⟨ha.tearSeq host k, State.Fit.tearSeq ha.seqs ht host k⟩
  exact hall.2

theorem State.tearEngine_sameFit (s : State) (host : HostId) : s.SameFit (s.tearEngine host) :=
  ⟨rfl, rfl, rfl, rfl, rfl, rfl, rfl, rfl, rfl, rfl, rfl, rfl⟩

theorem State.Fit.teardown {s : State} (hsched : s.Scheduled) (h : s.Fit) (host : HostId) : (s.teardown host).Fit := by
  obtain ⟨hs, ht⟩ := State.Fit.tearJobs hsched h host
  have hengine := (State.tearEngine_sameFit _ host).fit (State.Fit.tearSeqs hs ht host)
  have hstore := ((State.setStanding_sameFit _ host .off).fit hengine).flushDelivery host
  have hgroups := List.foldlRecOn (motive := State.Fit) allGroups (State.tearGroup host) hstore
    fun t ht g _ => ht.tearGroup host g
  exact hgroups.tearRecords host

theorem State.Fit.hostReset (host : HostId) : KeepsFit (State.hostReset host) := by
  intro s hsched h
  have ht := State.Fit.teardown hsched h host
  unfold State.hostReset State.tornArrival
  dsimp only [State.answer]
  split
  · exact ht.intervalArrival
  · split
    · exact ht.arrival
    · exact ht

/-! ## Every command and every step -/

/-- The resources and the schedule of statement O59 are what `State.Fit` needs. -/
theorem State.Scheduled.fit {s : State} (h : s.Scheduled) (hr : s.Resourced) (hs : s.SamplesSound) (hh : s.HoldsSound)
    (hw : s.WindowsSound) : s.Fit := by
  obtain ⟨hagreed, _⟩ := s.scheduled_iff.1 h
  obtain ⟨hstocked, haligned⟩ := s.resources_iff.1 ⟨hr, hs, hh⟩
  exact ⟨hstocked, fun k => ⟨haligned k, (hagreed.jobs k).queued.1, (hagreed.jobs k).settling.2⟩, hagreed.nodup,
    s.windowsSound_iff.1 hw⟩

theorem State.Fit.resources {s : State} (h : s.Fit) :
    s.Resourced ∧ s.SamplesSound ∧ s.HoldsSound ∧ s.WindowsSound := by
  obtain ⟨hr, hs, hh⟩ := s.resources_iff.2 ⟨h.stocked, fun k => (h.stands k).aligned⟩
  exact ⟨hr, hs, hh, s.windowsSound_iff.2 h.windows⟩

/-- A blank state whose frames are all shared out. -/
theorem State.Blank.fit {s : State} (hb : s.Blank) (ha : s.allowance.h0 + s.allowance.h1 + s.allowance.h2 = 48)
    (hset : s.engine.settlingJob = none) : s.Fit := by
  obtain ⟨hstocked, haligned⟩ := s.resources_iff.1 ⟨hb.resourced ha, hb.samplesSound, hb.holdsSound⟩
  exact ⟨hstocked, fun k => ⟨haligned k, by simp [hb.queue], by simp [hset]⟩, by rw [hb.queue]; exact List.nodup_nil,
    s.windowsSound_iff.1 hb.windowsSound⟩

theorem State.setPort_sameFit (s : State) (host : HostId) (p : Port) : s.SameFit (s.setPort host p) :=
  ⟨rfl, rfl, rfl, rfl, rfl, rfl, rfl, rfl, rfl, rfl, rfl, rfl⟩

section Every
variable {s : State} (hsched : s.Scheduled) (h : s.Fit)
include h

theorem State.Fit.asserted : s.asserted.Fit :=
  State.Blank.fit ⟨rfl, rfl, rfl, rfl, rfl, rfl, rfl, rfl, rfl, rfl, rfl⟩ h.stocked.ledger.allowance rfl

theorem State.Fit.release (alloc : BitVec 2) (levels : LineLevels) (csLow : PerHost Bool) :
    (s.release alloc levels csLow).Fit := by
  unfold State.release
  split
  · exact State.Blank.fit ⟨rfl, rfl, rfl, rfl, rfl, rfl, rfl, rfl, rfl, rfl, rfl⟩ (allowancesOf_sum alloc) rfl
  · exact h

theorem State.Fit.live {f : State → State} (hf : (f s).Fit) : (s.live f).Fit := by
  unfold State.live
  split
  · exact h
  · exact hf

include hsched

theorem KeepsFit.take {block : State → Reply} (hb : KeepsFit block) (host : HostId) (i : Instr) :
    (s.take host i block).Fit := by
  unfold State.take
  split
  · exact (State.setPort_sameFit ..).fit (hb s hsched h)
  · exact h

end Every

theorem KeepsFit.expecting {block : State → Reply} (hb : KeepsFit block) (n : Nat) (args : List Byte) :
    KeepsFit (expecting n args block) := by
  intro s hs h
  unfold Machine.expecting
  split
  · exact hb s hs h
  · exact h

theorem KeepsFit.jobCommand {body : JobId → State → Reply} (hb : ∀ j, KeepsFit (body j)) (host : HostId)
    (args : List Byte) : KeepsFit (jobCommand host args body) := by
  refine KeepsFit.expecting (fun s hs h => ?_) 1 args
  split
  · exact h
  · exact hb _ s hs h

theorem KeepsFit.groupCommand {body : GroupId → State → Reply} (hb : ∀ g, KeepsFit (body g)) (n : Nat)
    (args : List Byte) : KeepsFit (groupCommand n args body) := by
  refine KeepsFit.expecting (fun s hs h => ?_) n args
  split
  · exact h
  · exact hb _ s hs h

theorem KeepsFit.seqCommand {body : SeqId → State → Reply} (hb : ∀ k, KeepsFit (body k)) (args : List Byte) :
    KeepsFit (seqCommand args body) := by
  refine KeepsFit.expecting (fun s hs h => ?_) 1 args
  split
  · exact h
  · split
    · exact hb _ s hs h
    · exact h

theorem State.beginTransaction_sameFit (s : State) (host : HostId) : s.SameFit (s.beginTransaction host) :=
  .ite (s.setPort_sameFit ..) (.refl s)

theorem State.risingEdge_sameFit (s : State) (line : Line) : s.SameFit (s.risingEdge line) :=
  .ite (.refl s) ⟨rfl, rfl, rfl, rfl, rfl, rfl, rfl, rfl, rfl, rfl, rfl, rfl⟩

theorem State.Fit.exec {s t : State} (hs : s.Scheduled) (h : s.Fit) {i : Instr} (hi : exec i s = .next t) : t.Fit := by
  have hnext {u : State} (hu : u.Fit) (hi : Host.Outcome.next (φ := Fault) (ρ := Refusal) u = .next t) : t.Fit := by
    cases hi
    exact hu
  have htake {block : State → Reply} (hb : KeepsFit block) (host : HostId) (i : Instr) := hb.take hs h host i
  cases i with
  | resetNAssert => exact hnext h.asserted hi
  | resetNRelease alloc levels csLow => exact hnext (h.release alloc levels csLow) hi
  | transactionBegin host => exact hnext (h.live ((s.beginTransaction_sameFit host).fit h)) hi
  | transactionEnd host sdi => exact hnext (h.live ((s.setPort_sameFit host _).fit h)) hi
  | responseReady host => exact hnext (h.live ((s.setPort_sameFit host _).fit h)) hi
  | nop host args => exact hnext (htake (KeepsFit.expecting (fun _ _ hu => hu) _ _) _ _) hi
  | status host args => exact hnext (htake (KeepsFit.expecting (fun u _ hu => u.drawn_sameFit.fit hu) _ _) _ _) hi
  | defineSeq host args =>
    refine hnext (htake (fun u hsu hu => ?_) _ _) hi
    split
    · exact hu
    · exact State.Fit.defineSeq host _ u hsu hu
  | deleteSeq host args => exact hnext (htake (KeepsFit.seqCommand (State.Fit.deleteSeq host) _) _ _) hi
  | readSeq host args => exact hnext (htake (KeepsFit.seqCommand (State.Fit.readSeq host) _) _ _) hi
  | createJob host args =>
    refine hnext (htake (KeepsFit.expecting (fun u hsu hu => ?_) _ _) _ _) hi
    split
    · exact hu
    · exact State.Fit.createJob host _ u hsu hu
  | armJob host args => exact hnext (htake (KeepsFit.jobCommand State.Fit.armJob _ _) _ _) hi
  | disarmJob host args => exact hnext (htake (KeepsFit.jobCommand State.Fit.disarmJob _ _) _ _) hi
  | startJob host args => exact hnext (htake (KeepsFit.jobCommand State.Fit.startJob _ _) _ _) hi
  | abortJob host args => exact hnext (htake (KeepsFit.jobCommand State.Fit.abortJob _ _) _ _) hi
  | deleteJob host args => exact hnext (htake (KeepsFit.jobCommand State.Fit.deleteJob _ _) _ _) hi
  | jobStatus host args => exact hnext (htake (KeepsFit.jobCommand (fun _ u _ hu => u.drawn_sameFit.fit hu) _ _) _ _) hi
  | fetchFrame host args => exact hnext (htake (KeepsFit.expecting (State.Fit.fetchFrame host) _ _) _ _) hi
  | flushFrames host args => exact hnext (htake (KeepsFit.expecting (State.Fit.flushFrames host) _ _) _ _) hi
  | setWindow host args =>
    refine hnext (htake (fun u _ hu => ?_) _ _) hi
    split
    · exact hu
    · split
      · exact hu.loadWindow (windowArgs_limits ‹_›) ‹_›
      · exact hu
  | clearWindow host args =>
    refine hnext (htake (KeepsFit.expecting (fun u _ hu => ?_) _ _) _ _) hi
    split
    · exact hu
    · exact hu.clearWindow host _
  | acquireHold host args =>
    exact hnext (htake (KeepsFit.groupCommand (State.Fit.acquireHold host (argByte_le args 1)) _ _) _ _) hi
  | renewHold host args => exact hnext (htake (KeepsFit.groupCommand (State.Fit.renewHold host) _ _) _ _) hi
  | releaseHold host args => exact hnext (htake (KeepsFit.groupCommand (State.Fit.releaseHold host) _ _) _ _) hi
  | claimExc host args =>
    refine hnext (htake (KeepsFit.expecting (fun u hsu hu => ?_) _ _) _ _) hi
    split
    · exact hu
    · exact State.Fit.claimExc host _ u hsu hu
  | requestCal host args => exact hnext (htake (KeepsFit.expecting (State.Fit.requestCal host) _ _) _ _) hi
  | setCalInterval host args => exact hnext (htake (KeepsFit.expecting (State.Fit.setCalInterval host _) _ _) _ _) hi
  | readEvents host args => exact hnext (htake (KeepsFit.expecting (State.Fit.readEvents host _) _ _) _ _) hi
  | hostReset host args => exact hnext (htake (KeepsFit.expecting (State.Fit.hostReset host) _ _) _ _) hi
  | trigEdge host => exact hnext (h.live ((s.risingEdge_sameFit _).fit h)) hi
  | xtEdge n => exact hnext (h.live ((s.risingEdge_sameFit _).fit h)) hi
  | periodExpiry j => exact hnext (h.live (h.periodTrigger j)) hi
  | triggerPresented o => exact hnext (h.live (h.present o)) hi
  | stepComplete code => exact hnext (h.live (h.stepComplete hs code)) hi
  | calibrationComplete result => exact hnext (h.live (h.calComplete result)) hi
  | settleExpiry => exact hnext (h.live (h.settle hs)) hi
  | deadlineExpiry j => exact hnext (h.live h.deadlineReached) hi
  | leaseExpiry g => exact hnext (h.live (h.leaseReached g)) hi
  | triggerLineFallingEdge l =>
    exact hnext (h.live (State.SameFit.fit (s := s) ⟨rfl, rfl, rfl, rfl, rfl, rfl, rfl, rfl, rfl, rfl, rfl, rfl⟩ h)) hi

theorem State.Fit.step {s t : State} (hs : s.Scheduled) (h : s.Fit) (ht : step s = .next t) : t.Fit := by
  have hchosen : s.afterChoice.Scheduled ∧ s.afterChoice.Fit :=
    ⟨State.drawnFor_scheduled hs _, (s.drawnFor_sameFit _).fit h⟩
  unfold Machine.step at ht
  split at ht
  · rename_i rest _
    have hpopped : s.SameFit { s with pending := rest } :=
      ⟨rfl, rfl, rfl, rfl, rfl, rfl, rfl, rfl, rfl, rfl, rfl, rfl⟩
    exact State.Fit.exec (s := { s with pending := rest }) hs (hpopped.fit h) ht
  · split at ht
    · cases ht
      exact h
    · exact State.Fit.exec hchosen.1 hchosen.2 ht
    · cases ht
      exact hchosen.2.freeDecision
    · cases ht
      exact State.SameFit.fit (s := s.afterChoice) ⟨rfl, rfl, rfl, rfl, rfl, rfl, rfl, rfl, rfl, rfl, rfl, rfl⟩ hchosen.2

/-- Settles O59: `State.Fit`, the resources with as much of the schedule as they take, is kept by every command, and so by
every step. -/
theorem stepsKeepTheResourcesSound : Obligations.StepsKeepTheResourcesSound := by
  intro s t hscheduled hresourced hsamples hholds hwindows ht
  exact (State.Fit.step hscheduled (hscheduled.fit hresourced hsamples hholds hwindows) ht).resources

end Sys2Proof.Machine

namespace Sys2Proof.Machine

/-! ## What an empty queue of commands leaves to do (R75, R76, R173, log 1) -/

/-- The arrivals that must be taken are completions, timers and the ports' late arrivals. -/
theorem State.mem_mustArrive {s : State} {i : Instr} :
    i ∈ s.mustArrive ↔ i ∈ s.dueCompletion ∨ i ∈ s.dueTimers ∨ i ∈ s.portArrivals true := by
  simp [State.mustArrive]

theorem State.mem_dueCompletion {s : State} {i : Instr} : i ∈ s.dueCompletion ↔
    (∃ p, s.engine.step = some p ∧ reached s.timeBase p.finish = true ∧
      i = .stepComplete (Config.converterCode s.draws)) ∨
    (s.engine.state = .calibrating ∧ reached s.timeBase s.engine.calFinish = true ∧
      i = .calibrationComplete (if Config.calibrationPasses s.draws then .pass else .fail)) := by
  unfold State.dueCompletion
  refine List.mem_append.trans (or_congr ?_ ?_)
  · cases s.engine.step <;> simp
  · simp [and_assoc]

theorem State.mem_dueTimers {s : State} {i : Instr} : i ∈ s.dueTimers ↔
    (s.exc.target ≠ none ∧ reached s.timeBase s.exc.expiry = true ∧ i = .settleExpiry) ∨
    (∃ j : JobId, expired s.timeBase (s.job j).deadlineTimer = true ∧ i = .deadlineExpiry j) ∨
    (∃ j : JobId, expired s.timeBase (s.job j).periodTimer = true ∧ i = .periodExpiry j) ∨
    (∃ g : GroupId, (s.groups.at g).state = .held ∧ reached s.timeBase (s.groups.at g).expiry = true ∧
      i = .leaseExpiry g) := by
  simp [State.dueTimers, mem_allJobs, mem_allGroups, Option.isSome_iff_ne_none, and_assoc, eq_comm (b := i)]

/-- A port's next arrival is the command in hand or, without one, the placing of a prepared response (R173). -/
theorem Port.nextArrival_eq_some_iff (p : Port) (h : HostId) (i : Instr) : p.nextArrival h = some i ↔
    p.inHand = some i ∨ p.inHand = none ∧ p.prepared ≠ none ∧ i = .responseReady h := by
  unfold Port.nextArrival
  cases p.inHand <;> cases p.prepared <;> simp [eq_comm]

theorem State.mem_portArrivals {s : State} {late : Bool} {i : Instr} : i ∈ s.portArrivals late ↔
    ∃ h : HostId, decide (2 ≤ age s.timeBase (s.port h).endedAt) = late ∧ (s.port h).nextArrival h = some i := by
  have hall (h : HostId) : h ∈ HostId.all := by cases h <;> decide
  simp [State.portArrivals, hall]

/-- With the ports' own commands in hand, a completion arrives of itself alone. -/
theorem State.HandsSound.mem_dueCompletion {s : State} (hh : s.HandsSound) {i : Instr} (hi : i ∈ s.mustArrive)
    (hcaller : i.caller = none) (htimer : i ∉ s.dueTimers) (hready : ∀ h, i ≠ .responseReady h) :
    i ∈ s.dueCompletion := by
  rcases State.mem_mustArrive.1 hi with hi | hi | hi
  · exact hi
  · exact absurd hi htimer
  · obtain ⟨h, -, hnext⟩ := State.mem_portArrivals.1 hi
    rcases ((s.port h).nextArrival_eq_some_iff h i).1 hnext with hhand | ⟨-, -, hr⟩
    · rw [hh h i hhand] at hcaller
      cases hcaller
    · exact absurd hr (hready h)

theorem State.HandsSound.stepComplete_mem_iff {s : State} (hh : s.HandsSound) :
    (∃ code, Instr.stepComplete code ∈ s.mustArrive) ↔
      ∃ p, s.engine.step = some p ∧ reached s.timeBase p.finish = true := by
  constructor
  · rintro ⟨code, hcode⟩
    have hdue := hh.mem_dueCompletion hcode rfl (by simp [State.mem_dueTimers]) (by simp)
    simp only [State.mem_dueCompletion, reduceCtorEq, and_false, or_false] at hdue
    obtain ⟨p, hp, hreached, -⟩ := hdue
    exact ⟨p, hp, hreached⟩
  · rintro ⟨p, hp, hreached⟩
    exact ⟨_, State.mem_mustArrive.2 (.inl (State.mem_dueCompletion.2 (.inl ⟨p, hp, hreached, rfl⟩)))⟩

theorem State.HandsSound.calibrationComplete_mem_iff {s : State} (hh : s.HandsSound) :
    (∃ result, Instr.calibrationComplete result ∈ s.mustArrive) ↔
      s.engine.state = .calibrating ∧ reached s.timeBase s.engine.calFinish = true := by
  constructor
  · rintro ⟨result, hresult⟩
    have hdue := hh.mem_dueCompletion hresult rfl (by simp [State.mem_dueTimers]) (by simp)
    simp only [State.mem_dueCompletion, reduceCtorEq, and_false, exists_false, false_or] at hdue
    exact ⟨hdue.1, hdue.2.1⟩
  · rintro ⟨hs, hreached⟩
    exact ⟨_, State.mem_mustArrive.2 (.inl (State.mem_dueCompletion.2 (.inr ⟨hs, hreached, rfl⟩)))⟩

/-! ### The choice of a step -/

theorem State.mem_mustAct {s : State} {a : IdleAct} : a ∈ s.mustAct ↔
    (∃ i ∈ s.mustArrive, a = .arrival i) ∨ s.decisionDue = true ∧ a = .decision := by
  simp [State.mustAct, eq_comm (b := a)]

theorem State.mustAct_eq_nil_iff {s : State} : s.mustAct = [] ↔ s.mustArrive = [] ∧ s.decisionDue = false := by
  simp [State.mustAct]

/-- Time passes only when nothing must be done (R75). -/
theorem State.mem_idleActs {s : State} (hr : s.inReset = false) {a : IdleAct} : a ∈ s.idleActs ↔
    a ∈ s.mustAct ∨ (∃ i ∈ s.mayArrive, a = .arrival i) ∨ s.mustAct = [] ∧ a = .tick := by
  unfold State.idleActs
  simp only [hr, Bool.false_eq_true, if_false]
  cases s.mustAct <;> simp [eq_comm (b := a), or_assoc]

/-- Outside reset there is always something to do, and one thing is chosen. -/
theorem State.idleAct_of_working {s : State} (hr : s.inReset = false) : ∃ a ∈ s.idleActs, s.idleAct = some a := by
  have hne : s.idleActs ≠ [] := by
    unfold State.idleActs
    rw [hr]
    cases s.mustAct <;> simp
  have hlt := Nat.mod_lt (Config.arrivalChoice s.draws) (List.length_pos_iff.2 hne)
  exact ⟨_, List.getElem_mem hlt, List.getElem?_eq_getElem hlt⟩

/-- Nothing changes by a choice but the count of draws. -/
theorem State.afterChoice_eq (s : State) : ∃ n : Nat, s.afterChoice = { s with draws := n } := by
  unfold State.afterChoice State.drawnFor
  split
  · exact ⟨s.draws, rfl⟩
  · exact ⟨s.draws + 1, rfl⟩

/-- With an empty queue a step does what was chosen (log 1). -/
theorem step_of_idle {s : State} (hp : s.pending = []) (hr : s.inReset = false) : ∃ n : Nat,
    (∃ i ∈ s.mustArrive ++ s.mayArrive, step s = exec i { s with draws := n }) ∨
    (s.decisionDue = true ∧ step s = .next (State.freeDecision { s with draws := n })) ∨
    (s.mustArrive = [] ∧ s.decisionDue = false ∧
      step s = .next { s with draws := n, timeBase := s.timeBase + 1 }) := by
  obtain ⟨a, hmem, ha⟩ := State.idleAct_of_working hr
  obtain ⟨n, hn⟩ := s.afterChoice_eq
  rw [State.mem_idleActs hr, State.mem_mustAct, State.mustAct_eq_nil_iff] at hmem
  refine ⟨n, ?_⟩
  rcases hmem with (⟨i, hi, rfl⟩ | ⟨hd, rfl⟩) | ⟨i, hi, rfl⟩ | ⟨⟨hnone, hd⟩, rfl⟩
  · exact .inl ⟨i, List.mem_append_left _ hi, by simp only [step, hp, ha, hn]⟩
  · exact .inr (.inl ⟨hd, by simp only [step, hp, ha, hn]⟩)
  · exact .inl ⟨i, List.mem_append_right _ hi, by simp only [step, hp, ha, hn]⟩
  · exact .inr (.inr ⟨hnone, hd, by simp only [step, hp, ha, hn, State.tick]⟩)

/-- With nothing to do at all a microsecond passes, and no draw is used (R75). -/
theorem step_of_nothing {s : State} (hp : s.pending = []) (hr : s.inReset = false) (hmust : s.mustArrive = [])
    (hmay : s.mayArrive = []) (hd : s.decisionDue = false) : step s = .next { s with timeBase := s.timeBase + 1 } := by
  have hacts : s.idleActs = [.tick] := by
    unfold State.idleActs
    simp [hr, State.mustAct_eq_nil_iff.2 ⟨hmust, hd⟩, hmay]
  have hact : s.idleAct = some .tick := by simp [State.idleAct, hacts, Nat.mod_one]
  have hchoice : s.afterChoice = s := by simp [State.afterChoice, State.drawnFor, hacts]
  simp only [step, hp, hact, hchoice, State.tick]

/-- Settles O1: the choice is `step_of_idle`, and what must be taken is `State.mem_mustArrive`, timer by timer. -/
theorem stepTakesTheFrontCommand : Obligations.StepTakesTheFrontCommand := by
  refine ⟨fun _ _ _ => rfl, fun s hp hr => ?_, fun s => step_of_nothing, fun s => step_of_idle, fun s => ?_⟩
  · have hact : s.idleAct = none := by simp [State.idleAct, State.idleActs, hr]
    simp only [step, hp, hact]
  · intro past
    have hpast (e : Time) : past e ↔ reached s.timeBase e = true := (reached_iff _ _).symm
    have htimer {i : Instr} (hi : i ∈ s.dueTimers) : i ∈ s.mustArrive := State.mem_mustArrive.2 (.inr (.inl hi))
    simp only [hpast]
    refine ⟨fun hh => ⟨hh.stepComplete_mem_iff, hh.calibrationComplete_mem_iff⟩, fun ht he => ?_, fun j e hj he => ?_,
      fun j e hj he => ?_, fun g hg he => ?_, fun h hlate => ?_⟩
    · exact htimer (State.mem_dueTimers.2 (.inl ⟨ht, he, rfl⟩))
    · exact htimer (State.mem_dueTimers.2 (.inr (.inl ⟨j, by rw [hj]; exact he, rfl⟩)))
    · exact htimer (State.mem_dueTimers.2 (.inr (.inr (.inl ⟨j, by rw [hj]; exact he, rfl⟩))))
    · exact htimer (State.mem_dueTimers.2 (.inr (.inr (.inr ⟨g, hg, he, rfl⟩))))
    · have hport {i : Instr} (hi : (s.port h).nextArrival h = some i) : i ∈ s.mustArrive :=
        State.mem_mustArrive.2 (.inr (.inr (State.mem_portArrivals.2 ⟨h, decide_eq_true hlate, hi⟩)))
      refine ⟨fun i hi => hport ?_, fun hn hprepared => hport ?_⟩
      · exact ((s.port h).nextArrival_eq_some_iff h i).2 (.inl hi)
      · exact ((s.port h).nextArrival_eq_some_iff h _).2 (.inr ⟨hn, hprepared, rfl⟩)

end Sys2Proof.Machine

namespace Sys2Proof.Machine

/-! ## A trigger at its job (R6, R86, R87, Table 4-2) -/

/-- The jobs that busy handling applies to: those with a run in hand, but for a torn-down one (R87, R91). -/
theorem Job.busyNow_iff (r : Job) : r.busyNow = true ↔
    r.state.busy = true ∧ ¬ (r.state = .stopping ∧ r.stopReason = some .teardown) := by
  unfold Job.busyNow
  cases r.state <;> simp [JobState.busy]

theorem Job.onTrigger_of_armed {r : Job} (hs : r.state = .armed) : r.onTrigger = .queued := if_pos hs

theorem Job.onTrigger_of_busyNow {r : Job} (hb : r.busyNow = true) : r.onTrigger =
    if r.disarmPending = false ∧ r.busy = .latch ∧ r.latch = none then .latched else .missed := by
  have harmed : r.state ≠ .armed := fun hs => by simp [Job.busyNow, hs] at hb
  unfold Job.onTrigger
  rw [if_neg harmed, if_pos hb]
  cases r.disarmPending <;> simp

/-- FREE, IDLE, DONE and torn-down jobs ignore a trigger (R86, R91). -/
theorem Job.onTrigger_of_ignoring {r : Job} (hs : r.state = .free ∨ r.state = .idle ∨ r.state = .done ∨
    r.state = .stopping ∧ r.stopReason = some .teardown) : r.onTrigger = .ignored := by
  have hbusy : r.busyNow = false := by
    unfold Job.busyNow
    rcases hs with hs | hs | hs | ⟨hs, hreason⟩
    · rw [hs]
    · rw [hs]
    · rw [hs]
    · simp [hs, hreason]
  have harmed : r.state ≠ .armed := by rcases hs with hs | hs | hs | ⟨hs, -⟩ <;> simp [hs]
  unfold Job.onTrigger
  rw [if_neg harmed, hbusy]
  rfl

section Triggered
variable {s : State} {j : JobId} (entered : State → State) (source : TriggerSource) (stamp : Time)
  (mark : Option EdgeMark)

theorem State.takeTriggerThen_of_armed (hs : (s.job j).state = .armed) :
    State.takeTriggerThen entered s j source stamp mark =
      entered (((s.setJob j ((s.job j).triggered stamp mark)).enqueue j).expireAtOnce j) := by
  unfold State.takeTriggerThen
  rw [Job.onTrigger_of_armed hs]
  rfl

/-- An ARMED job enters PENDING, its deadline's expiry at once included (R6, log 9). -/
theorem State.takeTriggerThen_entering (hs : (s.job j).state = .armed) (hj : j ∉ s.queue) :
    State.takeTriggerThen entered s j source stamp mark =
      entered (s.entering j ((s.job j).triggered stamp mark)) := by
  rw [State.takeTriggerThen_of_armed _ _ _ _ hs, State.expireAtOnce_enqueue rfl rfl rfl hj]

theorem State.takeTriggerThen_of_ignoring (hs : (s.job j).state = .free ∨ (s.job j).state = .idle ∨
    (s.job j).state = .done ∨ (s.job j).state = .stopping ∧ (s.job j).stopReason = some .teardown) :
    State.takeTriggerThen entered s j source stamp mark = s := by
  unfold State.takeTriggerThen
  rw [Job.onTrigger_of_ignoring hs]

/-- A busy job latches the trigger or counts it as missed (R87, R88). -/
theorem State.takeTriggerThen_of_busyNow (hb : (s.job j).busyNow = true) :
    State.takeTriggerThen entered s j source stamp mark = s.busyHandled j source stamp := by
  have htaken : State.takeTriggerThen entered s j source stamp mark =
      if (s.job j).disarmPending = false ∧ (s.job j).busy = .latch ∧ (s.job j).latch = none then
        s.setJob j { s.job j with latch := some stamp }
      else s.missTrigger j source stamp := by
    unfold State.takeTriggerThen
    rw [Job.onTrigger_of_busyNow hb]
    split_ifs <;> rfl
  exact htaken

end Triggered

theorem State.busyHandled_bookkept (s : State) (j : JobId) (source : TriggerSource) (stamp : Time) :
    s.Bookkept (s.busyHandled j source stamp) :=
  .ite (s.setJob_bookkept j _) (.ite ((s.setJob_bookkept j _).trans (State.emit_bookkept ..)) (s.setJob_bookkept j _))

/-! ## START_JOB (R82) -/

/-- A job that is neither at rest nor FREE takes the command as a trigger. -/
theorem State.startJob_of_triggered {s : State} {j : JobId} (hs : (s.job j).state = .armed ∨ (s.job j).busyNow = true) :
    s.startJob j = (s.takeTrigger j .command s.timeBase none).answer (s.job j).onTrigger.payload := by
  unfold State.startJob
  split
  · simp_all [Job.busyNow]
  · simp_all [Job.busyNow]
  · simp_all [Job.busyNow]
  all_goals rfl

/-- Settles O24: a trigger of source COMMAND, taken as `State.takeTriggerThen_of_armed` and
`State.takeTriggerThen_of_busyNow` say; the deadline of a trigger stamped now has not passed. -/
theorem startJobPresentsATrigger : Obligations.StartJobPresentsATrigger := by
  intro h s j ho hc r
  have hgone := hc.2.1
  rw [exec_of_commandable (body := State.startJob) rfl ho hc]
  refine ⟨fun hs => ?_, fun hs hd => ?_, fun hb => ?_⟩
  · have hrefuse : s.startJob j = s.refuse .wrongState := by
      unfold State.startJob
      rcases hs with hs | hs <;> rw [show (s.job j).state = _ from hs]
    rw [hrefuse]
    rfl
  · have hentry : ((s.setJob j (r.triggered s.timeBase none)).enqueue j).expireAtOnce j =
        (s.setJob j (r.triggered s.timeBase none)).enqueue j := by
      refine State.expireAtOnce_of_not_passed ?_
      rw [State.enqueue_job_same, State.setJob_job_same]
      rintro ⟨d, hdeadline, hpassed⟩
      have hpos := hd d hdeadline
      have hage : (s.timeBase - s.timeBase).toNat = 0 := by simp
      exact absurd (hpassed.trans_eq hage) (by omega)
    rw [State.startJob_of_triggered (.inl hs), Job.onTrigger_of_armed hs, State.takeTrigger,
      State.takeTriggerThen_of_armed _ _ _ _ hs, hentry]
    rfl
  · have hbusy : (s.job j).busyNow = true := (Job.busyNow_iff _).2 ⟨hb, hgone⟩
    rw [State.startJob_of_triggered (.inr hbusy), Job.onTrigger_of_busyNow hbusy, State.takeTrigger,
      State.takeTriggerThen_of_busyNow _ _ _ _ hbusy]
    dsimp only [State.answer, r]
    split_ifs <;> rfl

/-! ## Period timers (R83) -/

/-- Before its expiry value, and when it is stopped, a period timer does not expire (R76). -/
theorem State.periodTrigger_of_not_reached {s : State} {j : JobId}
    (hn : ∀ e, (s.job j).periodTimer = some e → 2 ^ 31 ≤ (s.timeBase - e).toNat) : s.periodTrigger j = s := by
  unfold State.periodTrigger
  split
  · rfl
  · rename_i e he
    exact if_neg fun hreached => absurd ((reached_iff _ _).1 hreached) (Nat.not_lt.2 (hn e he))

/-- An expiry sets the next one and presents a trigger (R83). -/
theorem State.periodTrigger_of_reached {s : State} {j : JobId} {e : Time} (he : (s.job j).periodTimer = some e)
    (hreached : (s.timeBase - e).toNat < 2 ^ 31) : s.periodTrigger j =
      (s.setJob j { s.job j with periodTimer := (s.job j).period.map (after e) }).takeTrigger j .period e none := by
  unfold State.periodTrigger
  rw [he]
  exact if_pos ((reached_iff _ _).2 hreached)

/-- Settles O30: the next expiry is set first, and the trigger is taken by the job's state. -/
theorem periodExpiryKeepsTheGrid : Obligations.PeriodExpiryKeepsTheGrid := by
  intro s j hr r
  have hexec : exec (.periodExpiry j) s = .next (s.periodTrigger j) := congrArg _ (State.live_of_working _ hr)
  rw [hexec]
  refine ⟨fun hnone => ?_, ?_⟩
  · rw [State.periodTrigger_of_not_reached fun e he => absurd (hnone.symm.trans he) (by simp)]
  intro e p he hp next u
  refine ⟨fun hlate => ?_, fun hreached => ?_⟩
  · rw [State.periodTrigger_of_not_reached fun e' he' => by
      cases he.symm.trans he'
      exact hlate]
  · have hset : s.periodTrigger j = u.takeTrigger j .period e none := by
      rw [State.periodTrigger_of_reached he hreached, show (s.job j).period = some p from hp]
      rfl
    have hjob : u.job j = { r with periodTimer := next } := State.setJob_job_same ..
    rw [hset, State.takeTrigger]
    refine ⟨fun hs => ?_, fun hs hj => ?_, fun hb hg => ?_⟩
    · rw [State.takeTriggerThen_of_ignoring _ _ _ _ (by rw [hjob]; exact hs)]
    · rw [State.takeTriggerThen_of_armed _ _ _ _ (by rw [hjob]; exact hs), hjob, State.setJob_setJob,
        State.expireAtOnce_enqueue rfl rfl rfl hj]
      rfl
    · rw [State.takeTriggerThen_of_busyNow _ _ _ _ (by rw [hjob]; exact (Job.busyNow_iff _).2 ⟨hb, hg⟩)]

end Sys2Proof.Machine

namespace Sys2Proof.Machine

/-! ## Edges of the trigger lines (R77 to R80) -/

/-- A line that its detector has seen high gives no edge (R78). -/
theorem State.risingEdge_of_high {s : State} {line : Line} (hl : lineHigh s.levels line = true) :
    s.risingEdge line = s := if_pos hl

/-- A rise fixes the presentations of the edge (R79, R80). -/
theorem State.risingEdge_of_low {s : State} {line : Line} (hl : lineHigh s.levels line = false) :
    s.risingEdge line = { s with
      levels := setLine s.levels line true
      waiting := s.waiting ++ (s.edgeJobs line).map fun j =>
        ⟨.line line, j, lineSource line, s.timeBase, edgeMark line s.timeBase (s.edgeJobs line)⟩ } :=
  if_neg (by simp [hl])

theorem State.edgeJobs_trig (s : State) (h : HostId) : s.edgeJobs (.trig h) = allJobs.filter fun j =>
    decide ((s.job j).state ≠ .free ∧ (s.job j).source = .hostLine ∧ (s.job j).owner = h) := by
  refine List.filter_congr fun j _ => ?_
  rw [Bool.eq_iff_iff]
  simp

theorem State.edgeJobs_xt (s : State) (n : XtLine) : s.edgeJobs (.xt n) = allJobs.filter fun j =>
    decide ((s.job j).state ≠ .free ∧ (s.job j).source = .xt n) := by
  refine List.filter_congr fun j _ => ?_
  rw [Bool.eq_iff_iff]
  simp

/-- Settles O28, line by line; the jobs of an edge are `State.edgeJobs_trig` and `State.edgeJobs_xt`. -/
theorem lineEdgesAreRecognised : Obligations.LineEdgesAreRecognised := by
  intro s hr
  have hrise {i : Instr} {line : Line} (hi : exec i s = .next (s.live fun t => t.risingEdge line)) :
      exec i s = .next (s.risingEdge line) := hi.trans (congrArg _ (State.live_of_working _ hr))
  have hfall (line : Line) : exec (.triggerLineFallingEdge line) s =
      .next { s with levels := setLine s.levels line false } := congrArg _ (State.live_of_working _ hr)
  refine ⟨fun h => ⟨fun hl => ?_, fun hl => ?_, hfall (.trig h)⟩, fun n => ?_⟩
  · rw [hrise (i := .trigEdge h) rfl, State.risingEdge_of_high (line := .trig h) hl]
  · rw [hrise (i := .trigEdge h) rfl, State.risingEdge_of_low (line := .trig h) hl, State.edgeJobs_trig]
    rfl
  · intro jobs
    refine ⟨fun hl => ?_, fun hl => ?_, hfall (.xt n)⟩
    · rw [hrise (i := .xtEdge n) rfl, State.risingEdge_of_high (line := .xt n) hl]
    · rw [hrise (i := .xtEdge n) rfl, State.risingEdge_of_low (line := .xt n) hl, State.edgeJobs_xt]
      rfl

/-! ## A free decision answers every arrival before it (R81, log 30) -/

section DecisionDue
variable (s : State) (j : JobId)

theorem State.giveConverter_decisionDue : (s.giveConverter j).decisionDue = s.decisionDue := by
  unfold State.giveConverter State.run State.startStep
  split
  · split <;> rfl
  · rfl

theorem State.startRun_decisionDue (f : FrameId) : (s.startRun j f).decisionDue = s.decisionDue := by
  rw [State.startRun_eq_giveConverter, State.giveConverter_decisionDue, (s.runTakenUp_eq j f).1]

theorem State.resumeRun_decisionDue : (s.resumeRun j).decisionDue = s.decisionDue := by
  unfold State.resumeRun
  dsimp only
  split <;> rw [State.giveConverter_decisionDue] <;> rfl

theorem State.selectFrom_decisionDue (n : Nat) : (State.selectFrom n s).decisionDue = s.decisionDue := by
  induction n generalizing s with
  | zero => rfl
  | succ n ih =>
    unfold State.selectFrom
    split
    · rfl
    · split
      · exact s.resumeRun_decisionDue _
      · split
        · exact State.startRun_decisionDue ..
        · exact State.startRun_decisionDue ..
        · exact (ih _).trans (s.refuseRun_bookkept _).decisionDue

/-- After a free decision of a free converter none is due. -/
theorem State.freeDecision_decisionDue (hf : s.engine.free = true) : s.freeDecision.decisionDue = false := by
  have hrefreshed : (State.refreshBlocked { s with decisionDue := false }).decisionDue = false :=
    (State.refreshBlocked_bookkept _).decisionDue
  unfold State.freeDecision
  dsimp only
  rcases (Engine.free_iff _).1 hf with hs | hs <;> rw [hs] <;> dsimp only <;> split
  · exact hrefreshed
  · exact (State.selectFrom_decisionDue ..).trans hrefreshed
  · exact hrefreshed
  · exact hrefreshed

/-- An entry that has reached the Dispatcher leaves no decision due, unless the converter is taken (R30, R38). -/
theorem State.entryArrival_decided_or_taken (c : JobClass) :
    (s.entryArrival c).decisionDue = false ∨ (s.entryArrival c).engine.free = false := by
  unfold State.entryArrival
  split
  · rename_i hc
    obtain ⟨k, hk⟩ := Option.isSome_iff_exists.1 hc.2
    rw [State.displace_of_settlingRoutine hk]
    exact .inl (State.freeDecision_decisionDue _ rfl)
  · unfold State.arrival
    split
    · exact .inl (s.freeDecision_decisionDue ‹_›)
    · exact .inr (Bool.eq_false_iff.2 ‹_›)

end DecisionDue

/-! ## Presentations (R81, R85, R86) -/

/-- Further presentations of the same edge wait, of an origin that is not a window's (R79, R80, R85). -/
theorem State.edgeGoesOn_iff {t : State} {p : Presentation} {o : Origin} {waiting : List Presentation}
    (ho : p.origin = o) (hw : t.waiting = waiting) :
    t.edgeGoesOn p = true ↔ o ≠ .window ∧ ∃ q ∈ waiting, q.origin = o ∧ q.stamp = p.stamp := by
  simp [State.edgeGoesOn, ho, hw]

/-- With no decision due, or the converter taken, the last presentation of an edge brings none. -/
theorem State.settleDecision_of_decided_or_taken {t : State} (p : Presentation)
    (h : t.decisionDue = false ∨ t.engine.free = false) : t.settleDecision p = t := by
  unfold State.settleDecision
  split
  · rename_i hdue
    rcases h with hd | hf
    · simp [hd] at hdue
    · rw [Bool.eq_false_iff, ne_eq, Engine.free_iff, not_or] at hf
      exact State.freeDecision_of_taken hf.1 hf.2
  · rfl

/-- While an edge goes on a decision that is due stays so. -/
theorem State.settleDecision_of_edgeGoesOn {t : State} {p : Presentation} (h : t.edgeGoesOn p = true) :
    t.settleDecision p = t := if_neg (by simp [h])

/-- A presentation that is the last of its edge brings the decision that is due (R81). -/
theorem State.settleDecision_eq {t : State} {p : Presentation} {goesOn : Prop} [Decidable goesOn]
    (hon : t.edgeGoesOn p = true ↔ goesOn) :
    t.settleDecision p = if t.decisionDue = true ∧ ¬ goesOn then t.freeDecision else t := by
  unfold State.settleDecision
  refine if_congr ?_ rfl rfl
  rw [Bool.and_eq_true, Bool.not_eq_true', Bool.eq_false_iff, ne_eq, hon]

/-- The oldest presentation of an origin is taken by its job (R86). -/
theorem State.present_of_waiting {s : State} {o : Origin} {p : Presentation}
    (hp : s.waiting.find? (fun p => p.origin == o) = some p) : s.present o =
      (State.takeTriggerThen (fun u => u.edgeEntry p (s.job p.job).cls) { s with waiting := s.waiting.erase p } p.job
        p.source p.stamp p.mark).settleDecision p := by
  unfold State.present
  rw [hp]

/-- An entry that ends its edge, or finds the converter taken, reaches the Dispatcher as any other (R30, R38). -/
theorem State.edgeEntry_of_last {t : State} {p : Presentation} (c : JobClass)
    (h : ¬ (t.edgeGoesOn p = true ∧ t.engine.free = true)) : t.edgeEntry p c = t.entryArrival c := by
  unfold State.edgeEntry
  rw [if_neg]
  rwa [Bool.and_eq_true, and_comm]

/-- With more of the edge to come the decision of a free converter is taken now or stays due (R81, log 30). -/
theorem State.edgeEntry_of_goesOn {t : State} {p : Presentation} (c : JobClass) (hon : t.edgeGoesOn p = true)
    (hf : t.engine.free = true) : t.edgeEntry p c =
      if Config.decisionWaits t.draws then { t.drawn with decisionDue := true } else t.drawn.freeDecision := by
  unfold State.edgeEntry
  rw [if_pos (by rw [hon, hf]; rfl)]

/-- An entry into PENDING is bookkeeping, its deadline's expiry at once included (R6, log 9). -/
theorem State.entering_bookkept {s : State} {j : JobId} {r : Job} (hs : r.state = .pending) (hl : r.latch = none)
    (hm : r.missed = 0) (hj : j ∉ s.queue) : s.Bookkept (s.entering j r) := by
  rw [← State.expireAtOnce_enqueue hs hl hm hj]
  exact ((s.setJob_bookkept j r).trans (State.enqueue_bookkept ..)).trans (State.expireAtOnce_bookkept ..)

/-- A presented ARMED job enters PENDING; with `State.edgeEntry_of_last` and `State.edgeEntry_of_goesOn`, what the
Dispatcher makes of the entry (R6, R81). -/
theorem State.present_of_armed {s : State} {o : Origin} {p : Presentation}
    (hp : s.waiting.find? (fun p => p.origin == o) = some p) (hs : (s.job p.job).state = .armed)
    (hj : p.job ∉ s.queue) :
    s.present o = ((State.entering { s with waiting := s.waiting.erase p } p.job
      ((s.job p.job).triggered p.stamp p.mark)).edgeEntry p (s.job p.job).cls).settleDecision p := by
  rw [State.present_of_waiting hp,
    State.takeTriggerThen_entering (s := { s with waiting := s.waiting.erase p }) _ _ _ _ hs hj]
  rfl

/-- Settles O29: by the state of the presented job. -/
theorem presentedTriggersAreTaken : Obligations.PresentedTriggersAreTaken := by
  intro s o hr
  have hexec : exec (.triggerPresented o) s = .next (s.present o) := congrArg _ (State.live_of_working _ hr)
  rw [hexec]
  refine ⟨fun hnone => ?_, ?_⟩
  · unfold State.present
    rw [hnone]
  intro p hp u r i goesOn free settled
  have ho : p.origin = o := by simpa using List.find?_some hp
  have hsettled {t : State} (ht : u.Bookkept t) : t.settleDecision p = settled t := by
    rw [State.settleDecision_eq (State.edgeGoesOn_iff ho ht.decided.waiting), ht.decisionDue]
  refine ⟨fun hs => ?_, ?_, fun hb hg => ?_⟩
  · rw [hexec, State.present_of_waiting hp, State.takeTriggerThen_of_ignoring (s := u) _ _ _ _ hs, hsettled (.refl u)]
  · intro hs hj entered
    have hentered : u.Bookkept entered := State.entering_bookkept rfl rfl rfl hj
    have hon {t : State} (ht : t.waiting = entered.waiting) : t.edgeGoesOn p = true ↔ goesOn :=
      State.edgeGoesOn_iff ho (ht.trans hentered.decided.waiting)
    have hfree : entered.engine.free = true ↔ free := by rw [Engine.free_iff, hentered.engine]
    rw [hexec, State.present_of_armed hp hs hj]
    refine ⟨fun hlast => ?_, fun hgoes hf => ?_⟩
    · rw [State.edgeEntry_of_last _ (by rwa [hon rfl, hfree]),
        State.settleDecision_of_decided_or_taken p (State.entryArrival_decided_or_taken ..)]
    · have hdrawn : entered.drawn = { entered with draws := s.draws + 1 } := by
        rw [State.drawn, hentered.decided.draws]
      have hdraws : entered.draws = s.draws := hentered.decided.draws
      rw [State.edgeEntry_of_goesOn _ ((hon rfl).2 hgoes) (hfree.2 hf), hdrawn, hdraws,
        State.settleDecision_of_edgeGoesOn ((hon ?_).2 hgoes)]
      split
      · rfl
      · exact (State.freeDecision_decided _).waiting
  · rw [hexec, State.present_of_waiting hp,
      State.takeTriggerThen_of_busyNow (s := u) _ _ _ _ ((Job.busyNow_iff _).2 ⟨hb, hg⟩),
      hsettled (u.busyHandled_bookkept ..)]

end Sys2Proof.Machine

namespace Sys2Proof.Machine

/-! ## RELEASE_HOLD and leases (R142, R144) -/

/-- A group command of one byte goes by the group that the byte names. -/
theorem exec_releaseHold {h : HostId} {b : Byte} {s : State} (ho : s.Offered h (.releaseHold h [b])) :
    (4 ≤ b.toNat → exec (.releaseHold h [b]) s = .next (s.respond h .badArgument [])) ∧
    (∀ g : GroupId, b.toNat = g.val → exec (.releaseHold h [b]) s =
      .next ((s.releaseHold h g).state.respond h (s.releaseHold h g).status (s.releaseHold h g).payload)) := by
  have harg : argByte [b] 0 = b.toNat := rfl
  rw [exec_of_offered (n := 1) rfl ho rfl, harg]
  refine ⟨fun hb => ?_, fun g hg => ?_⟩
  · rw [index?_none hb]
    rfl
  · rw [index?_eq_some_iff.2 hg]

theorem State.leaseReached_of_held {s : State} {g : GroupId} (hs : (s.groups.at g).state = .held)
    (hreached : (s.timeBase - (s.groups.at g).expiry).toNat < 2 ^ 31) : s.leaseReached g =
      State.arrival ((s.freeGroup g).emit (s.groups.at g).host none none (.holdExpired g (s.groups.at g).lease)) :=
  if_pos ⟨hs, (reached_iff _ _).2 hreached⟩

theorem State.leaseReached_of_not_held {s : State} {g : GroupId}
    (hn : (s.groups.at g).state ≠ .held ∨ 2 ^ 31 ≤ (s.timeBase - (s.groups.at g).expiry).toNat) :
    s.leaseReached g = s := by
  refine if_neg fun h => ?_
  have hreached := (reached_iff _ _).1 h.2
  exact hn.elim (fun hs => hs h.1) fun hlate => absurd hreached (Nat.not_lt.2 hlate)

/-- Settles O49: a release goes by `exec_releaseHold`; a lease that is reached frees its group. -/
theorem holdsEndByReleaseOrLease : Obligations.HoldsEndByReleaseOrLease := by
  refine ⟨fun h b s ho => ?_, fun g s hr => ?_⟩
  · obtain ⟨hrange, hgroup⟩ := exec_releaseHold ho
    refine ⟨hrange, fun g hg => ?_⟩
    rw [hgroup g hg]
    refine ⟨fun hs hh => ?_, fun hn => ?_⟩
    · rw [State.releaseHold, if_pos ⟨hs, hh⟩]
      rfl
    · rw [State.releaseHold, if_neg fun hs => hn.elim hs.1 fun hne => hne hs.2]
      rfl
  · have hexec : exec (.leaseExpiry g) s = .next (s.leaseReached g) := congrArg _ (State.live_of_working _ hr)
    rw [hexec]
    refine ⟨fun hs hreached => ?_, fun hn => ?_⟩
    · rw [State.leaseReached_of_held hs hreached]
      rfl
    · rw [State.leaseReached_of_not_held hn]

/-! ## SETTLE_EXPIRY (R9, R132) -/

/-- A settling that has reached its expiry is reported with its target settled (R132). -/
theorem State.settle_of_reached {s : State} {l : Level} (ht : s.exc.target = some l)
    (hreached : (s.timeBase - s.exc.expiry).toNat < 2 ^ 31) :
    s.settle = State.settledReport { s with exc := { s.exc with settled := l, target := none } } := by
  unfold State.settle
  rw [ht]
  exact if_pos ((reached_iff _ _).2 hreached)

theorem State.settle_of_not_reached {s : State} (hlate : 2 ^ 31 ≤ (s.timeBase - s.exc.expiry).toNat) :
    s.settle = s := by
  unfold State.settle
  split
  · rfl
  · exact if_neg fun h => absurd ((reached_iff _ _).1 h) (Nat.not_lt.2 hlate)

/-- A settling job whose minimum is met enters RUNNING with its step started (R9, R109). -/
theorem State.settledReport_of_settling {s : State} {j : JobId} {x : SeqStep} (hs : s.engine.state = .settling)
    (hj : s.engine.settlingJob = some j) (hm : (s.seqOf j).minimum.rank ≤ s.exc.settled.rank)
    (hx : (s.seqOf j).steps[(s.job j).nextStep]? = some x) :
    s.settledReport = { s with
      jobs := s.jobs.put j { s.job j with state := .running }
      engine := s.engine.starting j (s.job j).nextStep x s.timeBase } := by
  have hmet : s.settledFor j = true := decide_eq_true hm
  unfold State.settledReport
  rw [if_pos hs, hj]
  dsimp only
  rw [if_pos hmet, State.run_eq hx]

/-- With no job settling the report is an arrival (R30, R132). -/
theorem State.settledReport_of_not_settling {s : State} (hs : s.engine.state ≠ .settling) :
    s.settledReport = s.arrival := if_neg hs

/-- Settles O52, by the state of the converter when the expiry is reached. -/
theorem settleExpirySettles : Obligations.SettleExpirySettles := by
  intro s hr
  have hexec : exec .settleExpiry s = .next s.settle := congrArg _ (State.live_of_working _ hr)
  rw [hexec]
  refine ⟨fun hnone => ?_, ?_⟩
  · unfold State.settle
    rw [hnone]
  intro l ht t
  refine ⟨fun hlate => ?_, fun hreached => ?_⟩
  · rw [State.settle_of_not_reached hlate]
  · have hreport : s.settle = t.settledReport := State.settle_of_reached ht hreached
    rw [hreport]
    refine ⟨fun j x hs hj hm hx => ?_, fun hs => ?_, fun hs => ?_⟩
    · rw [State.settledReport_of_settling (s := t) hs hj hm hx]
      rfl
    · have hfree : t.engine.free = true := (Engine.free_iff _).2 hs
      have hnot : t.engine.state ≠ .settling := by rcases hs with hs | hs <;> simp [t, hs]
      rw [State.settledReport_of_not_settling hnot, State.arrival_of_free hfree]
    · have htaken : t.engine.free = false := by rcases hs with hs | hs <;> simp [t, Engine.free, hs]
      have hnot : t.engine.state ≠ .settling := by rcases hs with hs | hs <;> simp [t, hs]
      rw [State.settledReport_of_not_settling hnot, State.arrival_of_taken htaken]

end Sys2Proof.Machine

namespace Sys2Proof.Machine

/-! ## A sample is judged (R85, R106, R154 to R156, Table 9-2) -/

/-- The zone of a code against an enabled window, limits included (R154). -/
theorem Window.zoneOf_of_enabled {v : Window} (he : v.enabled = true) (code : BitVec 12) :
    v.zoneOf code = if code < v.low then .below else if v.high < code then .above else .inside :=
  if_neg (by simp [he])

theorem Window.zoneOf_of_disabled {v : Window} (he : v.enabled = false) (code : BitVec 12) : v.zoneOf code = .none :=
  if_pos he

/-- A LIMIT record is due at a change of zone, but for UNKNOWN to INSIDE (Table 9-2). -/
theorem limitDue_iff (last : LastZone) (zone : Zone) : limitDue last zone = true ↔
    ¬ (last = LastZone.ofZone zone ∨ last = .unknown ∧ LastZone.ofZone zone = .inside) := by
  cases last <;> cases zone <;> decide

theorem entersLimit_iff (last : LastZone) (zone : Zone) : entersLimit last zone = true ↔
    (LastZone.ofZone zone = .below ∨ LastZone.ofZone zone = .above) ∧ last ≠ LastZone.ofZone zone := by
  cases last <;> cases zone <;> decide

/-- The LIMIT record is all that a report changes (R155). -/
theorem State.reportLimit_eq (s : State) (j : JobId) (w : WindowId) (index : Nat) (channel : Channel)
    (code : BitVec 12) (zone : Zone) :
    let r := s.job j
    let last := (s.window r.owner w).lastZone
    s.reportLimit j w index channel code zone = { s with
      events := if last = LastZone.ofZone zone ∨ last = .unknown ∧ LastZone.ofZone zone = .inside then s.events
        else s.events.put r.owner ((s.events.get r.owner).push ⟨s.timeBase, some j, r.fillFrame,
          .limit w index channel code zone last r.runNumber⟩) } := by
  dsimp only
  unfold State.reportLimit
  simp only [limitDue_iff]
  split_ifs <;> rfl

theorem State.windowEvent_of_notify {s : State} {v : Window} (hv : v.action = .notify) (zone : Zone) :
    s.windowEvent v zone = s := by
  unfold State.windowEvent
  rw [hv]

/-- A named job of source WINDOW is started when the sample enters BELOW or ABOVE (R85, R156). -/
theorem State.windowEvent_of_startJob {s : State} {v : Window} {k : JobId} (hv : v.action = .startJob k) (zone : Zone) :
    s.windowEvent v zone = { s with
      waiting := if (LastZone.ofZone zone = .below ∨ LastZone.ofZone zone = .above) ∧
          v.lastZone ≠ LastZone.ofZone zone ∧ (s.job k).source = .window then
          s.waiting ++ [⟨.window, k, .window, s.timeBase, none⟩]
        else s.waiting } := by
  unfold State.windowEvent
  rw [hv]
  simp only [entersLimit_iff, and_assoc]
  split_ifs <;> rfl

/-- A presentation is all that a window event changes (R85). -/
theorem State.windowEvent_eq (s : State) (v : Window) (zone : Zone) :
    s.windowEvent v zone = { s with waiting := (s.windowEvent v zone).waiting } := by
  cases hv : v.action with
  | notify => rw [State.windowEvent_of_notify hv]
  | startJob k => rw [State.windowEvent_of_startJob hv]

theorem State.judge_of_disabled {s : State} {j : JobId} {w : WindowId}
    (he : (s.window (s.job j).owner w).enabled = false) (index : Nat) (channel : Channel) (code : BitVec 12) :
    s.judge j (some w) index channel code = s := if_neg (by simp [he])

/-- An enabled window reports the sample, starts its job and keeps the zone (R154, R155, R156). -/
theorem State.judge_of_enabled {s : State} {j : JobId} {w : WindowId}
    (he : (s.window (s.job j).owner w).enabled = true) (index : Nat) (channel : Channel) (code : BitVec 12) :
    let v := s.window (s.job j).owner w
    let reported := s.reportLimit j w index channel code (v.zoneOf code)
    s.judge j (some w) index channel code = { s with
      windows := s.windows.put (s.job j).owner ((s.windows.get (s.job j).owner).put w
        { v with lastZone := LastZone.ofZone (v.zoneOf code) })
      events := reported.events, waiting := (reported.windowEvent v (v.zoneOf code)).waiting } := by
  intro v reported
  have hjudge : s.judge j (some w) index channel code =
      (reported.windowEvent v (v.zoneOf code)).setWindow (s.job j).owner w
        { v with lastZone := LastZone.ofZone (v.zoneOf code) } := if_pos he
  have hreported : reported = { s with events := reported.events } := by
    simp only [reported, State.reportLimit_eq]
  rw [hjudge, State.windowEvent_eq]
  generalize (reported.windowEvent v (v.zoneOf code)).waiting = waiting
  rw [State.setWindow, hreported]

/-- A judged sample changes a window, event queues and the waiting presentations alone. -/
theorem State.judge_eq (s : State) (j : JobId) (ref : Option WindowId) (index : Nat) (channel : Channel)
    (code : BitVec 12) : s.judge j ref index channel code = { s with
      windows := (s.judge j ref index channel code).windows, events := (s.judge j ref index channel code).events
      waiting := (s.judge j ref index channel code).waiting } := by
  cases ref with
  | none => rfl
  | some w =>
    cases he : (s.window (s.job j).owner w).enabled with
    | false => rw [State.judge_of_disabled he]
    | true => rw [State.judge_of_enabled he]

/-- Settles O46: an enabled window by `State.judge_of_enabled`, the last zone being the zone under its other name. -/
theorem samplesAreJudgedByTheWindow : Obligations.SamplesAreJudgedByTheWindow := by
  intro s j index channel code r
  refine ⟨rfl, rfl, fun w => ?_⟩
  intro v
  refine ⟨fun he => ⟨State.judge_of_disabled he .., Window.zoneOf_of_disabled he code⟩, ?_⟩
  intro he zone last
  have hzone : (s.window (s.job j).owner w).zoneOf code = zone := Window.zoneOf_of_enabled he code
  have hlast : LastZone.ofZone zone = last := by
    simp only [zone, last]
    split_ifs <;> rfl
  have hreport := s.reportLimit_eq j w index channel code zone
  have hjudge := State.judge_of_enabled he index channel code
  dsimp only at hreport hjudge
  rw [hlast] at hreport
  rw [hzone, hlast] at hjudge
  refine ⟨hzone, _, _, hjudge, ?_, fun hv => ?_, fun k hv => ?_⟩
  · rw [hreport]
  · rw [State.windowEvent_of_notify hv, hreport]
  · rw [State.windowEvent_of_startJob hv, hlast, hreport]
    rfl

end Sys2Proof.Machine

namespace Sys2Proof.Machine

/-! ## A boundary decision (R35, R36, R38) -/

theorem State.refreshBlocked_cls (s : State) (k : JobId) : (s.refreshBlocked.job k).cls = (s.job k).cls := by
  rw [s.refreshBlocked_job]
  split <;> rfl

/-- No hold keeps an URGENT entry back, so every one that is queued waits (R28). -/
theorem State.urgentWaits_iff (s : State) : s.urgentWaits = true ↔ ∃ k ∈ s.queue, (s.job k).cls = .urgent := by
  have heligible (k : JobId) : ((s.job k).cls == .urgent && !s.heldBack k) = true ↔ (s.job k).cls = .urgent := by
    unfold State.heldBack
    cases (s.job k).cls <;> simp
  simp only [State.urgentWaits, List.any_eq_true, heligible]

/-- A ROUTINE job yields to an URGENT entry and to an overdue calibration (R36). -/
def State.YieldsAtBoundary (s : State) (j : JobId) : Prop :=
  (s.job j).cls = .routine ∧ ((∃ k ∈ s.queue, (s.job k).cls = .urgent) ∨ s.engine.effective + 64 ≤ s.engine.counter)

theorem State.yieldsAtBoundary_iff (s : State) (j : JobId) : s.YieldsAtBoundary j ↔
    (s.job j).cls = .routine ∧ (s.refreshBlocked.urgentWaits || s.refreshBlocked.engine.overdue) = true := by
  rw [Bool.or_eq_true, State.urgentWaits_iff, s.refreshBlocked_bookkept.engine, Engine.overdue, decide_eq_true_iff]
  simp only [s.refreshBlocked_queue, s.refreshBlocked_cls]
  rfl

section Boundary
variable {s : State} {j : JobId} (hj : j ∉ s.queue)
include hj

theorem State.refreshBlocked_job_of_not_queued : s.refreshBlocked.job j = s.job j := by
  rw [s.refreshBlocked_job, if_neg hj]

/-- A job that does not yield goes on with its next step (R35, R36, R109). -/
theorem State.boundaryDecision_of_going {x : SeqStep} (hx : (s.seqOf j).steps[(s.job j).nextStep]? = some x)
    (hstay : ¬ s.YieldsAtBoundary j) : s.boundaryDecision j = { s.refreshBlocked with
      engine := s.engine.starting j (s.job j).nextStep x s.timeBase } := by
  have hjob := State.refreshBlocked_job_of_not_queued hj
  have hseq : s.refreshBlocked.seqOf j = s.seqOf j := by
    rw [State.seqOf, hjob, s.refreshBlocked_bookkept.decided.seqs]
    rfl
  have hgoing : s.boundaryDecision j = s.refreshBlocked.startStep j :=
    if_neg fun h => hstay ((s.yieldsAtBoundary_iff j).2 h)
  have hstart : s.engine.starting j (s.job j).nextStep x s.timeBase =
      s.refreshBlocked.engine.starting j (s.job j).nextStep x s.refreshBlocked.timeBase := by
    rw [s.refreshBlocked_bookkept.engine, s.refreshBlocked_bookkept.decided.kept.timeBase]
  rw [hgoing, State.startStep_eq (x := x) (by rw [hjob, hseq]; exact hx), hjob, hstart]

/-- A job that yields becomes PREEMPTED and frees the converter (R11, R36). -/
theorem State.boundaryDecision_of_yielding (hyield : s.YieldsAtBoundary j) :
    s.boundaryDecision j = State.freeDecision { ((s.refreshBlocked.setJob j { s.job j with
        state := .preempted, preemptCount := min 255 ((s.job j).preemptCount + 1) }).enqueue j) with
      engine := s.engine.released } := by
  have hleft : s.boundaryDecision j = ((s.refreshBlocked.preempt j).releaseConverter).freeDecision :=
    if_pos ((s.yieldsAtBoundary_iff j).1 hyield)
  have hreleased : s.engine.released = s.refreshBlocked.engine.released := by rw [s.refreshBlocked_bookkept.engine]
  rw [hleft, State.preempt, State.refreshBlocked_job_of_not_queued hj, hreleased]
  rfl

end Boundary

/-! ## The completion of a step before the last (R10, R55, R62, R111) -/

/-- A step whose moment has been reached is taken by the Job Controller (R111). -/
theorem State.StepEnds.stepComplete {s : State} {p : StepInProgress} (h : s.StepEnds p) (code : BitVec 12) :
    s.stepComplete code = s.stepDone p code := by
  obtain ⟨-, hp, hreached⟩ := h
  unfold State.stepComplete
  rw [hp]
  exact if_pos ((reached_iff _ _).2 hreached)

/-- With no step in progress, or before its moment, none completes (R109). -/
theorem State.stepComplete_of_not_reached {s : State} (hn : s.engine.step = none ∨ ∃ p, s.engine.step = some p ∧
    2 ^ 31 ≤ (s.timeBase - (p.start + BitVec.ofNat 32 (3 + p.settle.val))).toNat) (code : BitVec 12) :
    s.stepComplete code = s := by
  unfold State.stepComplete
  rcases hn with hp | ⟨p, hp, hlate⟩
  · rw [hp]
  · rw [hp]
    exact if_neg fun h => absurd ((reached_iff _ _).1 h) (Nat.not_lt.2 hlate)

theorem State.stepDone_of_running {s : State} {p : StepInProgress} (hs : (s.job p.job).state = .running)
    (code : BitVec 12) :
    s.stepDone p code = State.stepOfRun { s with engine := s.engine.counted } p code s.engine.stale := by
  unfold State.stepDone
  rw [hs]
  rfl

/-- The frame of a run with the sample of its step in slot `n` (R55, R62). -/
def State.sampled (s : State) (p : StepInProgress) (f : FrameId) (n : Fin 16) (window : Option WindowId)
    (code : BitVec 12) (stale : Bool) : State :=
  let x : Sample := ⟨true, n.val, p.channel, p.gain, code, stale, s.zoneFor (s.job p.job).owner window code⟩
  s.setFrame f { s.frames.at f with samples := (s.frames.at f).samples.put n x }

/-- The sample stands in the slot of the run's next step (R55, R62). -/
theorem State.writeSample_of_fill {s : State} {p : StepInProgress} {f : FrameId} {n : Fin 16}
    (hf : (s.job p.job).fillFrame = some f) (hn : (s.job p.job).nextStep = n.val) (window : Option WindowId)
    (code : BitVec 12) (stale : Bool) :
    s.writeSample p.job p code stale (s.zoneFor (s.job p.job).owner window code) = s.sampled p f n window code stale := by
  have hslot (samples : Table Sample 16) (x : Sample) : samples.setIfInBounds n.val x = samples.put n x :=
    Table.ext_at fun k => by simp [Table.at, Table.put, Vector.getElem_setIfInBounds, Vector.getElem_set]
  unfold State.writeSample State.sampled
  rw [hf, hn]
  dsimp only
  rw [hslot]

/-- The completion of a step with its sample judged: the run advances, and completes or comes to a boundary (R10). -/
theorem State.stepOfRun_of_judged {s t : State} {p : StepInProgress} {code : BitVec 12} {stale : Bool}
    {window : Option WindowId} (hwindow : s.windowRef p.job p.index = window)
    (ht : (s.writeSample p.job p code stale (s.zoneFor (s.job p.job).owner window code)).judge p.job window p.index
      p.channel code = t) :
    s.stepOfRun p code stale =
      if ((t.advance p.job).job p.job).nextStep = ((t.advance p.job).seqOf p.job).steps.length then
        (t.advance p.job).completeRun p.job
      else (t.advance p.job).boundaryDecision p.job := by
  subst hwindow ht
  rfl

/-- A step before the last leads to a boundary (R10). -/
theorem State.stepOfRun_of_more {s t : State} {p : StepInProgress} {f : FrameId} {n : Fin 16} {y : SeqStep}
    {code : BitVec 12} {stale : Bool} (hf : (s.job p.job).fillFrame = some f) (hn : (s.job p.job).nextStep = n.val)
    (hy : (s.seqOf p.job).steps[p.index]? = some y) (hmore : n.val + 1 < (s.seqOf p.job).steps.length)
    (ht : (s.sampled p f n y.window code stale).judge p.job y.window p.index p.channel code = t) :
    s.stepOfRun p code stale =
      (t.setJob p.job { s.job p.job with nextStep := n.val + 1 }).boundaryDecision p.job := by
  have hwindow : s.windowRef p.job p.index = y.window := by
    rw [State.windowRef, hy]
    rfl
  have hbeside : s.SameSchedule t := by
    rw [← ht]
    exact (s.setFrame_sameSchedule f _).trans (State.judge_sameSchedule ..)
  have hadvance : t.advance p.job = t.setJob p.job { s.job p.job with nextStep := n.val + 1 } := by
    rw [State.advance, hbeside.job, hn]
  have hseq : (t.advance p.job).seqOf p.job = s.seqOf p.job := by
    rw [hadvance, State.seqOf, State.setJob_job_same, State.setJob_seqs, hbeside.seqs]
    rfl
  have hjudged : (s.writeSample p.job p code stale (s.zoneFor (s.job p.job).owner y.window code)).judge p.job y.window
      p.index p.channel code = t := by
    rw [State.writeSample_of_fill hf hn]
    exact ht
  rw [State.stepOfRun_of_judged hwindow hjudged, if_neg, hadvance]
  rw [hseq, hadvance, State.setJob_job_same]
  exact Nat.ne_of_lt hmore

/-- Settles O39: the sample by `State.stepOfRun_of_more`, the boundary by `State.boundaryDecision_of_going` and
`State.boundaryDecision_of_yielding`. -/
theorem stepCompletionAtABoundary : Obligations.StepCompletionAtABoundary := by
  refine ⟨fun s code hr hn => ?_, ?_⟩
  · exact congrArg _ ((State.live_of_working _ hr).trans (State.stepComplete_of_not_reached hn code))
  intro s code p f n y x j r routine hends hs hf hj hn hy hx sampled judged here leaves
  obtain ⟨b, hb⟩ : ∃ b, b = judged.setJob j { r with nextStep := n.val + 1 } := ⟨_, rfl⟩
  have hmore : n.val + 1 < (s.seqOf j).steps.length := (List.getElem?_eq_some_iff.1 hx).1
  have hexec : exec (.stepComplete code) s = .next (b.boundaryDecision j) := by
    refine congrArg _ ((State.live_of_working _ hends.1).trans ?_)
    have hmoving : State.stepOfRun { s with engine := s.engine.counted } p code s.engine.stale =
        (judged.setJob j { r with nextStep := n.val + 1 }).boundaryDecision j :=
      State.stepOfRun_of_more (s := { s with engine := s.engine.counted }) hf hn hy hmore rfl
    rw [hends.stepComplete, State.stepDone_of_running hs, hmoving, hb]
  have hbeside : sampled.SameSchedule judged := sampled.judge_sameSchedule j y.window p.index p.channel code
  have hjob : b.job j = { r with nextStep := n.val + 1 } := by rw [hb, State.setJob_job_same]
  have hseq : b.seqOf j = s.seqOf j := by
    rw [State.seqOf, hjob, hb, State.setJob_seqs, hbeside.seqs]
    rfl
  have hqueue : b.queue = s.queue := by rw [hb, State.setJob_queue, hbeside.queue]
  have hengine : b.engine = s.engine.counted := by rw [hb, State.setJob_engine, hbeside.engine]
  have htime : b.timeBase = s.timeBase := by
    have hjudged := congrArg State.timeBase (sampled.judge_eq j y.window p.index p.channel code)
    rw [hb, State.setJob_timeBase]
    exact hjudged
  have hcls (k : JobId) : (b.job k).cls = (s.job k).cls := by
    rw [hb, State.setJob_job, hbeside.job]
    split
    · rename_i hk
      rw [hk]
    · rfl
  have hyields : b.YieldsAtBoundary j ↔ leaves := by
    rw [State.YieldsAtBoundary, hqueue, hengine]
    simp only [hcls]
    rfl
  have hnot : j ∉ b.queue := by rwa [hqueue]
  have hhere : b.refreshBlocked = here := congrArg _ hb
  rw [hexec]
  refine ⟨fun hstay => ?_, fun hleaves => ?_⟩
  · rw [State.boundaryDecision_of_going (x := x) hnot (by rw [hseq, hjob]; exact hx) fun h => hstay (hyields.1 h),
      hjob, hengine, htime, hhere]
  · rw [State.boundaryDecision_of_yielding hnot (hyields.2 hleaves), hjob, hengine, hhere]

end Sys2Proof.Machine

namespace Sys2Proof.Machine

/-! ## The arguments of DEFINE_SEQ (R99, Tables 12-4, 12-6) -/

theorem scopeOf_code (c : Scope) : scopeOf c.code = some c := by cases c <;> rfl

theorem gainOf_code (g : Gain) : gainOf g.code = some g := by cases g <;> rfl

theorem Scope.code_lt (c : Scope) : c.code < 2 := by cases c <;> decide

theorem Level.rank_lt (l : Level) : l.rank < 4 := by cases l <;> decide

theorem scopeOf_isSome_iff {n : Nat} : (scopeOf n).isSome = true ↔ n ≤ 1 := by
  rcases n with _ | _ | n <;> simp [scopeOf]

theorem gainOf_isSome_iff {n : Nat} : (gainOf n).isSome = true ↔ n ≤ 3 := by
  rcases n with _ | _ | _ | _ | n <;> simp [gainOf]

theorem levelOf_isSome_iff {n : Nat} : (levelOf n).isSome = true ↔ n ≤ 3 := by
  rcases n with _ | _ | _ | _ | n <;> simp [levelOf]

theorem windowRefOf_isSome_iff {n : Nat} : (windowRefOf n).isSome = true ↔ n ≤ 3 ∨ n = 15 := by
  unfold windowRefOf
  split
  · simp_all
  · rw [Option.isSome_map, index?_isSome_iff]
    omega

theorem targetOf_isSome_iff {n : Nat} : (targetOf n).isSome = true ↔ n ≤ 31 ∨ n = 255 := by
  unfold targetOf
  split
  · simp_all
  · rw [Option.isSome_map, index?_isSome_iff]
    omega

theorem windowRefOf_code (w : Option WindowId) : windowRefOf (w.elim 0xF Fin.val) = some w := by
  cases w with
  | none => rfl
  | some w => revert w; decide

theorem windowCode_lt (w : Option WindowId) : w.elim 0xF Fin.val < 16 := by
  cases w with
  | none => decide
  | some w => exact Nat.lt_of_lt_of_le w.isLt (by decide)

/-- The fields of a step's two bytes are in range (R99, Table 12-6). -/
def StepInRange (a b : Byte) : Prop :=
  a.toNat % 16 ≤ 3 ∧ b.toNat % 16 ≤ 7 ∧ (b.toNat / 16 ≤ 3 ∨ b.toNat / 16 = 15)

theorem stepOf_inRange {a b : Byte} {x : SeqStep} (h : stepOf a b = some x) : StepInRange a b := by
  simp only [stepOf, Option.bind_eq_bind, Option.bind_eq_some_iff] at h
  obtain ⟨_, _, gain, hgain, window, hwindow, settle, hsettle, _⟩ := h
  refine ⟨gainOf_isSome_iff.1 (Option.isSome_of_eq_some hgain), ?_,
    windowRefOf_isSome_iff.1 (Option.isSome_of_eq_some hwindow)⟩
  exact Nat.le_of_lt_succ (index?_isSome_iff.1 (Option.isSome_of_eq_some hsettle))

/-- Every pair of bytes that is read as a step is in range. -/
theorem stepsOf_inRange : ∀ {l : List Byte} {steps : List SeqStep}, stepsOf l = some steps →
    ∀ i, i < steps.length → StepInRange (l.getD (2 * i) 0) (l.getD (2 * i + 1) 0)
  | [], _, h, i, hi => by
    cases h
    exact absurd hi (Nat.not_lt_zero i)
  | [_], _, h, _, _ => by cases h
  | a :: b :: rest, steps, h, i, hi => by
    simp only [stepsOf, Option.bind_eq_bind, Option.bind_eq_some_iff, Option.some.injEq] at h
    obtain ⟨x, hx, more, hmore, rfl⟩ := h
    cases i with
    | zero => exact stepOf_inRange hx
    | succ i => exact stepsOf_inRange hmore i (Nat.lt_of_succ_lt_succ hi)

/-- What check 1 of R99 has found of arguments that it lets pass. -/
theorem seqArgs_inRange {args : List Byte} {a : SeqArgs} (h : seqArgs args = some a) :
    args.length = 4 + 2 * argByte args 3 ∧ 1 ≤ argByte args 3 ∧ argByte args 3 ≤ 16 ∧
    (argByte args 0 ≤ 31 ∨ argByte args 0 = 255) ∧ argByte args 1 ≤ 1 ∧ argByte args 2 ≤ 3 ∧
    ∀ i, i < argByte args 3 → StepInRange (args.getD (4 + 2 * i) 0) (args.getD (5 + 2 * i) 0) := by
  unfold seqArgs at h
  split at h
  · simp at h
  · split at h
    · simp at h
    · rename_i hlength hcount
      simp only [Option.bind_eq_bind, Option.bind_eq_some_iff] at h
      obtain ⟨_, htarget, _, hscope, _, hminimum, steps, hsteps, _⟩ := h
      have hnumber := stepsOf_length hsteps
      rw [List.length_drop] at hnumber
      refine ⟨by omega, by omega, by omega, targetOf_isSome_iff.1 (Option.isSome_of_eq_some htarget),
        scopeOf_isSome_iff.1 (Option.isSome_of_eq_some hscope),
        levelOf_isSome_iff.1 (Option.isSome_of_eq_some hminimum), fun i hi => ?_⟩
      have hrange := stepsOf_inRange hsteps i (by omega)
      simp only [List.getD_eq_getElem?_getD, List.getElem?_drop] at hrange ⊢
      rwa [← Nat.add_assoc, Nat.add_right_comm 4] at hrange

/-- The two bytes of a step are read back as the step. -/
theorem stepsOf_image (x : SeqStep) (rest : List Byte) :
    stepsOf (x.image ++ rest) = (stepsOf rest).map (x :: ·) := by
  have hchannel := x.channel.isLt
  have hgain := x.gain.code_lt
  have hwindow := windowCode_lt x.window
  have hsettle := x.settle.isLt
  have hstep : stepOf (bitsByte [(4, x.channel.val), (4, x.gain.code)])
      (bitsByte [(4, x.window.elim 0xF Fin.val), (4, x.settle.val)]) = some x := by
    have hhigh {m n : Nat} (hm : m < 16) (hn : n < 16) : (m % 16 * 16 + n % 16) % 256 / 16 = m := by omega
    have hlow {m n : Nat} (hn : n < 16) : (m % 16 * 16 + n % 16) % 256 % 16 = n := by omega
    simp only [stepOf, bitsByte, packBits, List.foldl_cons, List.foldl_nil, Nat.reducePow, Nat.zero_mul, Nat.zero_add,
      toNat_byteOf]
    rw [hhigh hchannel (by omega), hlow (by omega), hhigh hwindow (by omega), hlow (by omega), index?_some hchannel,
      gainOf_code, windowRefOf_code, index?_some hsettle]
    rfl
  rw [SeqStep.image, List.cons_append, List.cons_append, List.nil_append, stepsOf, hstep]
  cases stepsOf rest <;> rfl

theorem stepsOf_images (steps : List SeqStep) : stepsOf (steps.map SeqStep.image).flatten = some steps := by
  induction steps with
  | nil => rfl
  | cons x steps ih => rw [List.map_cons, List.flatten_cons, stepsOf_image, ih, Option.map_some]

/-- The byte of a target, as the arguments of DEFINE_SEQ carry it. -/
theorem targetOf_first (a : SeqArgs) : targetOf (argByte a.bytes 0) = some a.target := by
  cases ht : a.target with
  | anyFree => simp [SeqArgs.bytes, argByte, ht, targetOf]
  | index k =>
    have hk := k.isLt
    simp only [SeqArgs.bytes, argByte, ht, List.cons_append, List.getD_cons_zero, toNat_byteOf, targetOf]
    rw [if_neg (by omega), Nat.mod_eq_of_lt (by omega), index?_some hk]
    rfl

/-- The arguments that the bytes of a command of 1 to 16 steps carry (Table 12-4). -/
theorem seqArgs_bytes {a : SeqArgs} (h1 : 1 ≤ a.steps.length) (h16 : a.steps.length ≤ 16) :
    seqArgs a.bytes = some a := by
  have hscope : argByte a.bytes 1 = a.scope.code :=
    (toNat_byteOf _).trans (Nat.mod_eq_of_lt (Nat.lt_trans a.scope.code_lt (by decide)))
  have hminimum : argByte a.bytes 2 = a.minimum.rank :=
    (toNat_byteOf _).trans (Nat.mod_eq_of_lt (Nat.lt_trans a.minimum.rank_lt (by decide)))
  have hcount : argByte a.bytes 3 = a.steps.length := (toNat_byteOf _).trans (Nat.mod_eq_of_lt (by omega))
  have hlength : a.bytes.length = 4 + 2 * a.steps.length := by
    rw [SeqArgs.bytes, List.length_append, length_flatten_map (width := 2) fun _ => rfl]
    rfl
  have hsteps : stepsOf (a.bytes.drop 4) = some a.steps := stepsOf_images a.steps
  unfold seqArgs
  rw [hcount, if_neg (by omega), if_neg (by omega), targetOf_first, hscope, scopeOf_code, hminimum, levelOf_rank,
    hsteps]
  rfl

/-- What DEFINE_SEQ answers: BAD_ARGUMENT to arguments that check 1 of R99 refuses, otherwise what the other checks
answer. -/
theorem exec_defineSeq {h : HostId} {s : State} {args : List Byte} (ho : s.Offered h (.defineSeq h args)) :
    (seqArgs args = none → exec (.defineSeq h args) s = .next (s.respond h .badArgument [])) ∧
    (∀ a, seqArgs args = some a → exec (.defineSeq h args) s =
      .next ((s.defineSeq h a).state.respond h (s.defineSeq h a).status (s.defineSeq h a).payload)) := by
  have hexec : exec (.defineSeq h args) s = .next (s.take h (.defineSeq h args) fun t =>
    match seqArgs args with
    | none => t.refuse .badArgument
    | some a => t.defineSeq h a) := rfl
  rw [hexec, ho.take]
  refine ⟨fun hn => ?_, fun a ha => ?_⟩
  · rw [hn]
    rfl
  · rw [ha]

/-- A reply of `State.defineSeq` is what a well-formed DEFINE_SEQ in hand leads to. -/
theorem exec_defineSeq_bytes {h : HostId} {s : State} {a : SeqArgs} (ho : s.Offered h (.defineSeq h a.bytes))
    (h1 : 1 ≤ a.steps.length) (h16 : a.steps.length ≤ 16) {r : Reply} (hr : s.defineSeq h a = r) :
    exec (.defineSeq h a.bytes) s = .next (r.state.respond h r.status r.payload) := by
  rw [(exec_defineSeq ho).2 a (seqArgs_bytes h1 h16), hr]

/-! ## The target and the pool (R99 checks 2 and 3, R100) -/

/-- The search of a table in ascending order finds the lowest record. -/
theorem find?_finRange_of_least {n : Nat} {p : Fin n → Bool} {k : Fin n} (hk : p k = true)
    (hlt : ∀ m, m < k → p m = false) : (List.finRange n).find? p = some k := by
  rw [List.find?_eq_some_iff_getElem]
  refine ⟨hk, k.val, by simp, by simp, fun i hi => ?_⟩
  rw [List.getElem_finRange, hlt _ (by simpa [Fin.lt_def] using hi), Bool.not_false]

theorem State.lowestFreeSeq_of_least {s : State} {k : SeqId} (hk : (s.seqs.at k).defined = false)
    (hlt : ∀ m : SeqId, m < k → (s.seqs.at m).defined = true) : s.lowestFreeSeq = some k :=
  find?_finRange_of_least (by simp [hk]) fun m hm => by simp [hlt m hm]

theorem State.lowestFreeSeq_eq_none {s : State} (hd : ∀ k : SeqId, (s.seqs.at k).defined = true) :
    s.lowestFreeSeq = none := by
  simpa [State.lowestFreeSeq, List.find?_eq_none] using fun k _ => hd k

/-- The record that a definition is written to: the lowest FREE one, or the named one, FREE or the caller's own and
unreferenced (R99 check 2). -/
def State.DefineTarget (s : State) (h : HostId) (a : SeqArgs) (k : SeqId) : Prop :=
  a.target = .anyFree ∧ (s.seqs.at k).defined = false ∧ (∀ m : SeqId, m < k → (s.seqs.at m).defined = true) ∨
    a.target = .index k ∧ ((s.seqs.at k).defined = false ∨ (s.seqs.at k).owner = some h ∧ (s.seqs.at k).refCount = 0)

/-- A definition whose target passes goes on to the pool check at that record (R99). -/
theorem State.DefineTarget.defineSeq {s : State} {h : HostId} {a : SeqArgs} {k : SeqId} (ht : s.DefineTarget h a k) :
    s.defineSeq h a = s.defineAt h a k := by
  unfold State.defineSeq
  rcases ht with ⟨hany, hfree, hlt⟩ | ⟨hindex, hrecord⟩
  · simp only [hany, State.lowestFreeSeq_of_least hfree hlt]
  · simp only [hindex]
    rcases hrecord with hfree | ⟨howner, hcount⟩
    · rw [if_pos hfree]
    · simp [howner, hcount]

theorem State.defineAt_of_room {s : State} {a : SeqArgs} {k : SeqId}
    (hroom : a.steps.length ≤ s.freeSteps + (s.seqs.at k).steps.length) (h : HostId) :
    s.defineAt h a k = (s.define h k a).answer [byteOf k.val] := if_neg (Nat.not_lt.2 hroom)

theorem State.defineAt_of_no_room {s : State} {a : SeqArgs} {k : SeqId}
    (hroom : s.freeSteps + (s.seqs.at k).steps.length < a.steps.length) (h : HostId) :
    s.defineAt h a k = s.refuse .noSpace := if_pos hroom

/-- ANY_FREE with every record DEFINED finds none (R99 check 2). -/
theorem State.defineSeq_of_none_free {s : State} {a : SeqArgs} (ht : a.target = .anyFree)
    (hd : ∀ k : SeqId, (s.seqs.at k).defined = true) (h : HostId) : s.defineSeq h a = s.refuse .noSpace := by
  simp only [State.defineSeq, ht, State.lowestFreeSeq_eq_none hd]

/-- The refusals of a named DEFINED record, ownership before use (R99 check 2). -/
theorem State.defineSeq_of_defined {s : State} {a : SeqArgs} {k : SeqId} (ht : a.target = .index k)
    (hd : (s.seqs.at k).defined = true) (h : HostId) :
    ((s.seqs.at k).owner ≠ some h → s.defineSeq h a = s.refuse .notOwner) ∧
    ((s.seqs.at k).owner = some h → 0 < (s.seqs.at k).refCount → s.defineSeq h a = s.refuse .inUse) := by
  have hdefined : ¬ (s.seqs.at k).defined = false := by simp [hd]
  simp only [State.defineSeq, ht, if_neg hdefined]
  refine ⟨fun hne => if_pos hne, fun howner hcount => ?_⟩
  rw [if_neg (not_not_intro howner), if_pos hcount]

/-- Settles O15: the bytes carry the arguments (`seqArgs_bytes`), the target passes and the pool has room. -/
theorem defineSeqWritesTheRecord : Obligations.DefineSeqWritesTheRecord := by
  intro h s a k ho h1 h16 htarget hroom
  have hreply : s.defineSeq h a = (s.define h k a).answer [byteOf k.val] :=
    (State.DefineTarget.defineSeq htarget).trans (State.defineAt_of_room hroom h)
  exact exec_defineSeq_bytes ho h1 h16 hreply

/-- Settles O16: arguments that pass are in range (`seqArgs_inRange`); the other refusals are those of
`State.defineSeq`. -/
theorem defineSeqRefusals : Obligations.DefineSeqRefusals := by
  intro h s
  refine ⟨fun args ho hbad => (exec_defineSeq ho).1 ?_, fun a ho h1 h16 => ⟨fun ht hd => ?_, fun k ht hd => ?_,
    fun k htarget hroom => ?_⟩⟩
  · refine Option.eq_none_iff_forall_ne_some.2 fun a ha => ?_
    obtain ⟨hlength, hpositive, hmost, htarget, hscope, hminimum, hsteps⟩ := seqArgs_inRange ha
    simp only [argByte] at hlength hpositive hmost htarget hscope hminimum hsteps
    rcases hbad with hbad | hbad | hbad | hbad | hbad | hbad | ⟨i, hi, hstep⟩
    case inr.inr.inr.inr.inr.inr =>
      obtain ⟨hgain, hsettle, hwindow⟩ := hsteps i hi
      omega
    all_goals omega
  · exact exec_defineSeq_bytes ho h1 h16 (State.defineSeq_of_none_free ht hd h)
  · obtain ⟨hforeign, hused⟩ := State.defineSeq_of_defined ht hd h
    exact ⟨fun hne => exec_defineSeq_bytes ho h1 h16 (hforeign hne),
      fun howner hcount => exec_defineSeq_bytes ho h1 h16 (hused howner hcount)⟩
  · exact exec_defineSeq_bytes ho h1 h16
      ((State.DefineTarget.defineSeq htarget).trans (State.defineAt_of_no_room hroom h))

end Sys2Proof.Machine

namespace Sys2Proof.Machine

/-! ## DELETE_SEQ and READ_SEQ (R97, R101, R102) -/

/-- A sequence command in hand goes by the record that its byte names; a FREE record is refused like an index out of
range. -/
theorem exec_of_seqCommand {h : HostId} {s : State} {i : Instr} {b : Byte} {body : SeqId → State → Reply}
    (hexec : exec i s = .next (s.take h i (seqCommand [b] body))) (ho : s.Offered h i) :
    (32 ≤ b.toNat → exec i s = .next (s.respond h .badArgument [])) ∧
    (∀ k : SeqId, b.toNat = k.val →
      ((s.seqs.at k).defined = false → exec i s = .next (s.respond h .badArgument [])) ∧
      ((s.seqs.at k).defined = true → ∀ r : Reply, body k s = r →
        exec i s = .next (r.state.respond h r.status r.payload))) := by
  have harg : argByte [b] 0 = b.toNat := rfl
  rw [exec_of_offered (n := 1) hexec ho rfl, harg]
  refine ⟨fun hb => ?_, fun k hk => ?_⟩
  · rw [index?_none hb]
    rfl
  · rw [index?_eq_some_iff.2 hk]
    refine ⟨fun hd => ?_, fun hd r hr => ?_⟩
    · simp only [hd, Bool.false_eq_true, if_false]
      rfl
    · simp only [hd, if_true, hr]

/-- Settles O17: the record by `exec_of_seqCommand`, then the branches of `State.deleteSeq`. -/
theorem deleteSeqFreesTheRecord : Obligations.DeleteSeqFreesTheRecord := by
  intro h b s ho
  obtain ⟨hrange, hrecord⟩ := exec_of_seqCommand (body := State.deleteSeq h) rfl ho
  refine ⟨hrange, fun k hk => ?_⟩
  obtain ⟨hundefined, hdefined⟩ := hrecord k hk
  refine ⟨hundefined, fun hd => ⟨fun hne => ?_, fun howner => ?_⟩⟩
  · exact hdefined hd (s.refuse .notOwner) (if_pos hne)
  have hown : s.deleteSeq h k = if 0 < (s.seqs.at k).refCount then s.refuse .inUse else (s.freeSeq k).answer [] :=
    if_neg (not_not_intro howner)
  refine ⟨fun hcount => ?_, fun hcount => ⟨Seq.free, rfl, rfl, rfl, ?_⟩⟩
  · exact hdefined hd (s.refuse .inUse) (hown.trans (if_pos hcount))
  · exact hdefined hd ((s.freeSeq k).answer []) (hown.trans (if_neg (Nat.not_lt.2 hcount.le)))

/-- A byte that names an index is the byte of that index. -/
theorem byteOf_of_toNat {b : Byte} {n : Nat} (hb : b.toNat = n) : byteOf n = b := by
  rw [← hb, byteOf, BitVec.ofNat_toNat, BitVec.setWidth_eq]

/-- Settles O18: the record by `exec_of_seqCommand`, then the branches of `State.readSeq`; the codes of the payload are
those of Table 12-5. -/
theorem readSeqReportsTheRecord : Obligations.ReadSeqReportsTheRecord := by
  intro h b s ho
  obtain ⟨hrange, hrecord⟩ := exec_of_seqCommand (body := State.readSeq h) rfl ho
  refine ⟨hrange, fun k hk => ?_⟩
  obtain ⟨hundefined, hdefined⟩ := hrecord k hk
  refine ⟨hundefined, fun hd hne hpriv => ?_, fun hd hallowed => ?_⟩
  · refine hdefined hd (s.refuse .notOwner) (if_neg ?_)
    simp [hne, hpriv]
  · have hread : s.readSeq h k = s.answer ((s.seqs.at k).image k) := if_pos hallowed
    rw [hdefined hd _ hread, Seq.image, byteOf_of_toNat hk]
    have howner (o : Option HostId) : byteOf (ownerCode o) =
        match o with | none => 3 | some .h0 => 0 | some .h1 => 1 | some .h2 => 2 := by
      rcases o with _ | _ | _ | _ <;> rfl
    have hscope (c : Scope) : byteOf c.code = match c with | .priv => 0 | .shared => 1 := by cases c <;> rfl
    have hminimum (l : Level) :
        byteOf l.rank = match l with | .off => 0 | .low => 1 | .mid => 2 | .high => 3 := by cases l <;> rfl
    rw [howner, hscope, hminimum]
    rfl

end Sys2Proof.Machine

namespace Sys2Proof.Machine

/-! ## REQUEST_CAL and SET_CAL_INTERVAL (R116, R118) -/

/-- R116 gives one effective interval: what it says of an interval holds of `effectiveInterval` alone. -/
theorem effectiveInterval_unique {r : PerHost (Option Nat)} {n : Nat} (hnone : (∀ k, r.get k = none) → n = 4096)
    (hsome : (∃ k, r.get k ≠ none) → (∃ k, r.get k = some n) ∧ ∀ k m, r.get k = some m → n ≤ m) :
    effectiveInterval r = n := by
  obtain ⟨hdefault, hsmallest⟩ := effectiveInterval_spec r
  by_cases hr : ∀ k, r.get k = none
  · rw [hdefault hr, hnone hr]
  · have hr : ∃ k, r.get k ≠ none := not_forall.1 hr
    obtain ⟨⟨k, hk⟩, hle⟩ := hsmallest hr
    obtain ⟨⟨k', hk'⟩, hle'⟩ := hsome hr
    exact le_antisymm (hle k' n hk') (hle' k _ hk)

theorem State.requestCal_of_requester {s : State} {h : HostId} (hr : s.engine.requesters.get h = true) :
    s.requestCal h = s.answer [] := if_pos hr

theorem State.requestCal_of_new {s : State} {h : HostId} (hr : s.engine.requesters.get h = false) : s.requestCal h =
    (State.arrival { s with engine := { s.engine with requesters := s.engine.requesters.put h true } }).answer [] :=
  if_neg (by simp [hr])

theorem State.setCalInterval_of_refused {s : State} {h : HostId} {n : Nat} (hn : 1 ≤ n ∧ n ≤ 255) :
    s.setCalInterval h n = s.refuse .badArgument := if_pos hn

theorem State.setCalInterval_of_taken {s : State} {h : HostId} {n : Nat} (hn : n = 0 ∨ 256 ≤ n) {t : State}
    (ht : s.setRequest h (if n = 0 then none else some n) = t) : s.setCalInterval h n =
      (if t.engine.effective = s.engine.effective then t else t.intervalArrival).answer
        (bytesOf 2 t.engine.effective) := by
  subst ht
  exact if_neg (by omega)

/-- Settles O53: the branches of `State.requestCal` and `State.setCalInterval`; the interval that the model computes is
the one that R116 describes, by `effectiveInterval_unique`. -/
theorem calibrationIsRequested : Obligations.CalibrationIsRequested := by
  refine ⟨fun h s ho => ?_, fun h a b s ho => ?_⟩
  · rw [exec_of_offered (n := 0) rfl ho rfl]
    refine ⟨fun hr => ?_, fun hr => ?_⟩
    · rw [State.requestCal_of_requester hr]
      rfl
    · rw [State.requestCal_of_new hr]
      rfl
  · intro n
    have hn : argPair [a, b] 0 = n := rfl
    rw [exec_of_offered (n := 2) rfl ho rfl, hn]
    refine ⟨fun hlow hhigh => ?_, fun effective htaken => ?_⟩
    · rw [State.setCalInterval_of_refused ⟨hlow, hhigh⟩]
      rfl
    · intro requests hnone hsome t
      have heffective : effectiveInterval requests = effective := effectiveInterval_unique hnone hsome
      have ht : s.setRequest h (if n = 0 then none else some n) = t := by
        subst heffective
        rfl
      rw [State.setCalInterval_of_taken htaken ht]
      rfl

end Sys2Proof.Machine

namespace Sys2Proof.Machine

/-! ## A record for several hosts (R160) -/

/-- The same record is handed to each host of a set: the form that `State.emitAll` and `State.reportCalDone` share. -/
def State.emitTo (s : State) (told : HostId → Bool) (b : EventBody) : State :=
  HostId.all.foldl (fun t h => if told h then t.emit h none none b else t) s

/-- The two states agree but for the event queues. -/
def State.OnlyEvents (s t : State) : Prop := t = { s with events := t.events }

theorem State.OnlyEvents.refl (s : State) : s.OnlyEvents s := rfl

theorem State.OnlyEvents.trans {s t u : State} (h : s.OnlyEvents t) (k : t.OnlyEvents u) : s.OnlyEvents u :=
  Eq.trans k (congrArg (fun v : State => { v with events := u.events }) h)

theorem State.OnlyEvents.ite {s t u : State} {c : Prop} [Decidable c] (h : s.OnlyEvents t) (k : s.OnlyEvents u) :
    s.OnlyEvents (if c then t else u) := by
  split
  · exact h
  · exact k

theorem State.OnlyEvents.timeBase {s t : State} (h : s.OnlyEvents t) : t.timeBase = s.timeBase := by
  rw [h]

/-- The Conversion Engine's items are set after the records have been handed over. -/
theorem State.OnlyEvents.withEngine {s t : State} (h : s.OnlyEvents t) (e : Engine) :
    ({ t with engine := e } : State) = { s with events := t.events, engine := e } :=
  congrArg (fun v : State => { v with engine := e }) h

theorem State.emit_onlyEvents (s : State) (h : HostId) (j : Option JobId) (f : Option FrameId) (b : EventBody) :
    s.OnlyEvents (s.emit h j f b) := rfl

theorem State.emitIf_onlyEvents (s : State) (c : Prop) [Decidable c] (h : HostId) (b : EventBody) :
    s.OnlyEvents (if c then s.emit h none none b else s) := .ite (s.emit_onlyEvents ..) (.refl s)

theorem State.emitTo_onlyEvents (s : State) (told : HostId → Bool) (b : EventBody) : s.OnlyEvents (s.emitTo told b) :=
  ((s.emitIf_onlyEvents ..).trans (State.emitIf_onlyEvents ..)).trans (State.emitIf_onlyEvents ..)

/-- The queue of a host after one record that may have been addressed to another. -/
theorem State.emitIf_events_get (s : State) (c : Prop) [Decidable c] (x h : HostId) (b : EventBody) :
    (if c then s.emit x none none b else s).events.get h =
      if c ∧ h = x then (s.events.get h).push ⟨s.timeBase, none, none, b⟩ else s.events.get h := by
  by_cases hc : c
  · by_cases hx : h = x
    · simp [hc, hx]
    · simp [hc, hx, PerHost.get_put]
  · simp [hc]

/-- Each host of the set gets one record, the others none. -/
theorem State.emitTo_events_get (s : State) (told : HostId → Bool) (b : EventBody) (h : HostId) :
    (s.emitTo told b).events.get h =
      if told h then (s.events.get h).push ⟨s.timeBase, none, none, b⟩ else s.events.get h := by
  have htime (t : State) (x : HostId) : (if told x then t.emit x none none b else t).timeBase = t.timeBase :=
    (t.emitIf_onlyEvents ..).timeBase
  simp only [State.emitTo, HostId.all, List.foldl_cons, List.foldl_nil, State.emitIf_events_get, htime]
  cases h <;> simp

theorem State.emitAll_onlyEvents (s : State) (b : EventBody) : s.OnlyEvents (s.emitAll b) :=
  s.emitTo_onlyEvents (fun _ => true) b

/-- A record addressed to all hosts joins each host's queue (R160). -/
theorem State.emitAll_events_get (s : State) (b : EventBody) (h : HostId) :
    (s.emitAll b).events.get h = (s.events.get h).push ⟨s.timeBase, none, none, b⟩ :=
  s.emitTo_events_get (fun _ => true) b h

/-! ## CALIBRATION_COMPLETE (R119 to R122, R124) -/

theorem Engine.calibratingInFault_iff (e : Engine) : e.calibratingInFault = true ↔ e.failures = 3 := by
  simp [Engine.calibratingInFault]

/-- Whom a passing calibration answers, in the words of R120 and R124 (log 15). -/
theorem Engine.answers_iff (e : Engine) (h : HostId) : e.answers h = true ↔ e.served.get h = true ∨
    e.cause = .startup ∧ (e.tornDown.get h = false ∨ Config.startupReportsTornDown = true) := by
  simp [Engine.answers]

theorem State.reportCalDone_onlyEvents (s : State) : s.OnlyEvents s.reportCalDone :=
  s.emitTo_onlyEvents s.engine.answers _

theorem State.reportCalDone_events_get (s : State) (h : HostId) : s.reportCalDone.events.get h =
    if s.engine.answers h then (s.events.get h).push
      ⟨s.timeBase, none, none, .calDone s.engine.cause s.engine.startCount s.engine.failures⟩ else s.events.get h :=
  s.emitTo_events_get s.engine.answers _ h

/-- The state with a passing calibration's records handed over: CAL_DONE for those it answers, CONVERTER_RECOVERED for
all (R120, R122). -/
def State.passReported (s : State) : State :=
  if s.engine.calibratingInFault then s.reportCalDone.emitAll .converterRecovered else s.reportCalDone

/-- What a passing calibration leaves of the state (R120). -/
theorem State.calPass_eq (s : State) : s.calPass = { s with
    events := s.passReported.events
    engine := { s.engine with
      state := .idle, counter := 0, stale := false, failures := 0
      served := ⟨false, false, false⟩, tornDown := ⟨false, false, false⟩ } } :=
  have hdone := s.reportCalDone_onlyEvents
  have hreported : s.OnlyEvents s.passReported := .ite (hdone.trans (State.emitAll_onlyEvents ..)) hdone
  hreported.withEngine _

theorem State.passReported_events_get (s : State) (h : HostId) :
    s.passReported.events.get h = if s.engine.failures = 3 then
      (s.reportCalDone.events.get h).push ⟨s.timeBase, none, none, .converterRecovered⟩
    else s.reportCalDone.events.get h := by
  simp only [State.passReported, Engine.calibratingInFault_iff]
  split
  · rw [State.emitAll_events_get, s.reportCalDone_onlyEvents.timeBase]
  · rfl

/-- The state with a failing calibration's records handed over: CAL_FAILED, and CONVERTER_FAULT when it enters FAULT,
each for all hosts (R121, R122). -/
def State.failReported (s : State) : State :=
  let n := min 3 (s.engine.failures + 1)
  let told := s.emitAll (.calFailed s.engine.cause s.engine.startCount n)
  if s.engine.calibratingInFault = false ∧ n = 3 then told.emitAll .converterFault else told

/-- What a failing calibration leaves of the state (R121). -/
theorem State.calFail_eq (s : State) : s.calFail = { s with
    events := s.failReported.events
    engine := { s.engine with
      state := if min 3 (s.engine.failures + 1) = 3 then .fault else .idle
      counter := 0, stale := true, failures := min 3 (s.engine.failures + 1)
      served := ⟨false, false, false⟩, requesters := ⟨false, false, false⟩
      tornDown := ⟨false, false, false⟩ } } :=
  have htold := s.emitAll_onlyEvents _
  have hreported : s.OnlyEvents s.failReported := .ite (htold.trans (State.emitAll_onlyEvents ..)) htold
  hreported.withEngine _

theorem State.failReported_events_get (s : State) (h : HostId) :
    let n := min 3 (s.engine.failures + 1)
    let told := (s.events.get h).push ⟨s.timeBase, none, none, .calFailed s.engine.cause s.engine.startCount n⟩
    s.failReported.events.get h = if s.engine.failures ≠ 3 ∧ n = 3 then
      told.push ⟨s.timeBase, none, none, .converterFault⟩ else told := by
  simp only [State.failReported, ← Bool.not_eq_true, Engine.calibratingInFault_iff]
  split
  · rw [State.emitAll_events_get, State.emitAll_events_get, (s.emitAll_onlyEvents _).timeBase]
  · exact s.emitAll_events_get _ h

theorem State.calComplete_of_reached {s : State} (hs : s.engine.state = .calibrating)
    (hreached : (s.timeBase - (s.engine.calStart + 150)).toNat < 2 ^ 31) (result : CalResult) :
    s.calComplete result = match result with
      | .pass => s.calPass.freeDecision
      | .fail => s.calFail.freeDecision := if_pos ⟨hs, (reached_iff _ _).2 hreached⟩

theorem State.calComplete_of_not {s : State}
    (hn : ¬ (s.engine.state = .calibrating ∧ (s.timeBase - (s.engine.calStart + 150)).toNat < 2 ^ 31))
    (result : CalResult) : s.calComplete result = s :=
  if_neg fun ⟨hs, hreached⟩ => hn ⟨hs, (reached_iff _ _).1 hreached⟩

/-- Settles O54, by the result: what each leaves of the state is `State.calPass_eq` and `State.calFail_eq`, and its
records host by host are those of `State.passReported` and `State.failReported`. -/
theorem calibrationCompletionByResult : Obligations.CalibrationCompletionByResult := by
  intro s result hr e ends
  have hexec : exec (.calibrationComplete result) s = .next (s.calComplete result) :=
    congrArg _ (State.live_of_working _ hr)
  rw [hexec]
  refine ⟨fun hn => ?_, fun ⟨hs, hreached⟩ => ?_⟩
  · rw [State.calComplete_of_not hn]
  · rw [State.calComplete_of_reached hs hreached]
    cases result with
    | pass =>
      refine ⟨s.calPass, rfl, s.calPass_eq, fun h => ?_⟩
      have hevents : s.calPass.events = s.passReported.events := rfl
      simp only [hevents, State.passReported_events_get, State.reportCalDone_events_get, Engine.answers_iff]
      rfl
    | fail => exact ⟨s.calFail, rfl, s.calFail_eq, s.failReported_events_get⟩

end Sys2Proof.Machine

namespace Sys2Proof.Machine

/-! ## The output level follows the highest claim (R129 to R133, R189) -/

theorem Level.max_eq_or (a b : Level) : a.max b = a ∨ a.max b = b := by
  unfold Level.max
  split
  · exact .inr rfl
  · exact .inl rfl

/-- The highest of some claims is one of them. -/
theorem foldl_max_mem (l : List (Option Level)) {m top : Level} (h : l.foldl (fun m c => m.max (c.getD .off)) m = top) :
    top = m ∨ ∃ c ∈ l, c.getD .off = top := by
  induction l generalizing m with
  | nil => exact .inl h.symm
  | cons x l ih =>
    rcases ih h with hmax | ⟨c, hc, htop⟩
    · rcases m.max_eq_or (x.getD .off) with hm | hx
      · exact .inl (hmax.trans hm)
      · exact .inr ⟨x, List.mem_cons_self, (hmax.trans hx).symm⟩
    · exact .inr ⟨c, List.mem_cons_of_mem x hc, htop⟩

theorem Excitation.highestTransient_mem (e : Excitation) :
    e.highestTransient = .off ∨ ∃ j : JobId, e.transient.at j = some e.highestTransient := by
  rcases foldl_max_mem e.transient.toList (top := e.highestTransient) rfl with hoff | ⟨c, hc, htop⟩
  · exact .inl hoff
  · obtain ⟨i, hi, rfl⟩ := Vector.mem_iff_getElem.1 (Vector.mem_toList_iff.1 hc)
    cases hclaim : e.transient[i] with
    | none => exact .inl (by rw [← htop, hclaim]; rfl)
    | some l => exact .inr ⟨⟨i, hi⟩, by rw [← htop, hclaim]; exact hclaim⟩

/-- The highest claim is one of the claims, or OFF (R129). -/
theorem Excitation.claimed_mem (e : Excitation) : e.claimed = .off ∨ (∃ h, e.standing.get h = e.claimed) ∨
    ∃ j : JobId, e.transient.at j = some e.claimed := by
  rcases Level.max_eq_or ((e.standing.h0.max e.standing.h1).max e.standing.h2) e.highestTransient with h | h <;>
    rw [Excitation.claimed, h]
  · refine .inr (.inl ?_)
    rcases Level.max_eq_or (e.standing.h0.max e.standing.h1) e.standing.h2 with h2 | h2 <;> rw [h2]
    · rcases Level.max_eq_or e.standing.h0 e.standing.h1 with h1 | h1 <;> rw [h1]
      · exact ⟨.h0, rfl⟩
      · exact ⟨.h1, rfl⟩
    · exact ⟨.h2, rfl⟩
  · exact e.highestTransient_mem.imp_right .inr

section Recompute
variable (e : Excitation) (now : Time)

theorem Excitation.recompute_of_stay (h : e.claimed = e.output) : e.recompute now = e := by
  rw [Excitation.recompute, h, if_neg (lt_irrefl _), if_neg (lt_irrefl _)]

theorem Excitation.recompute_of_rise (h : e.output.rank < e.claimed.rank) :
    e.recompute now = e.raiseTo now e.claimed := if_pos h

theorem Excitation.recompute_of_fall (h : e.claimed.rank < e.output.rank) :
    e.recompute now = e.dropTo now e.claimed := by
  rw [Excitation.recompute, if_neg h.not_gt, if_pos h]

theorem Excitation.dropTo_of_settled (out : Level) (h : e.target = none) :
    e.dropTo now out = { e with output := out, settled := e.settled.min out } := by
  rw [Excitation.dropTo, h]

variable {out l : Level} (h : e.target = some l)
include h

/-- A fall to the settled level or below ends the settling (R133). -/
theorem Excitation.dropTo_of_reached (hle : out.rank ≤ e.settled.rank) :
    e.dropTo now out = { e with output := out, settled := out, target := none } := by
  rw [Excitation.dropTo, h]
  exact if_pos hle

/-- A fall that stays above the settled level redirects the settling (R133). -/
theorem Excitation.dropTo_of_above (hlt : e.settled.rank < out.rank) :
    e.dropTo now out = { e with output := out, target := some out, expiry := after now out.settleTime } := by
  rw [Excitation.dropTo, h]
  exact if_neg hlt.not_ge

end Recompute

/-- Settles O50: the highest claim is the least bound of all claims and one of them, and `Excitation.recompute` is read
off for an output that stays, rises or falls. -/
theorem outputFollowsTheHighestClaim : Obligations.OutputFollowsTheHighestClaim := by
  refine ⟨fun s => ⟨fun h => ?_, fun hr => ?_⟩, fun e now => ?_⟩
  · rcases h with h | h <;> simp [State.excMillivolts, h, Level.millivolts]
  · simp +contextual [State.excMillivolts, hr, Level.millivolts]
  · intro top settle
    obtain ⟨hstanding, htransient⟩ := (e.claimed_rank_le top.rank).1 le_rfl
    refine ⟨hstanding, fun j l hl => ?_, e.claimed_mem, e.recompute_of_stay now, e.recompute_of_rise now,
      fun hfall => ?_⟩
    · simpa [hl] using htransient j
    · rw [e.recompute_of_fall now hfall]
      exact ⟨e.dropTo_of_settled now top, fun l hl => ⟨e.dropTo_of_reached now hl, e.dropTo_of_above now hl⟩⟩

end Sys2Proof.Machine

namespace Sys2Proof.Machine

/-! ## The excitation and the event queues stay sound (R129 to R133, R160, R163, R166) -/

@[simp] theorem Excitation.recompute_claimed (e : Excitation) (now : Time) : (e.recompute now).claimed = e.claimed := by
  simp only [Excitation.claimed, Excitation.highestTransient, Excitation.recompute_standing,
    Excitation.recompute_transient]

/-- The excitation is settled at its output or settles toward it from below, whatever the claims (R130 to R133). -/
def Excitation.Settles (e : Excitation) : Prop :=
  (e.target = none ∧ e.settled = e.output) ∨ (e.target = some e.output ∧ e.settled.rank < e.output.rank)

theorem Excitation.sound_iff (e : Excitation) : e.Sound ↔ e.output = e.claimed ∧ e.Settles := by
  refine and_congr_right fun _ => ?_
  cases ht : e.target with
  | none => simp [Excitation.Settles, ht]
  | some l => simp [Excitation.Settles, ht]

/-- Whatever the claims have become, the output is brought to the highest of them and the settling follows. -/
theorem Excitation.Settles.recompute {e : Excitation} (h : e.Settles) (now : Time) : (e.recompute now).Sound := by
  refine (Excitation.sound_iff _).2 ⟨by simp, ?_⟩
  rcases lt_trichotomy e.output.rank e.claimed.rank with hrise | hstay | hfall
  · have hbelow : e.settled.rank < e.claimed.rank := by
      rcases h with ⟨_, hs⟩ | ⟨_, hs⟩
      · rwa [hs]
      · exact hs.trans hrise
    rw [e.recompute_of_rise now hrise]
    exact .inr ⟨rfl, hbelow⟩
  · rwa [e.recompute_of_stay now (Level.rank_injective hstay.symm)]
  · rw [e.recompute_of_fall now hfall]
    rcases h with ⟨ht, hs⟩ | ⟨ht, _⟩
    · rw [e.dropTo_of_settled now _ ht]
      exact .inl ⟨ht, if_neg (by rw [hs]; exact hfall.not_gt)⟩
    · rcases le_or_gt e.claimed.rank e.settled.rank with hle | hlt
      · rw [e.dropTo_of_reached now ht hle]
        exact .inl ⟨rfl, rfl⟩
      · rw [e.dropTo_of_above now ht hlt]
        exact .inr ⟨rfl, hlt⟩

/-- The claims of a sound excitation change, and its output follows them (R129). -/
theorem Excitation.Sound.reclaim {e : Excitation} (h : e.Sound) (standing : PerHost Level)
    (transient : Table (Option Level) 24) (now : Time) :
    (Excitation.recompute { e with standing := standing, transient := transient } now).Sound :=
  Excitation.Settles.recompute (e := { e with standing := standing, transient := transient }) (e.sound_iff.1 h).2 now

/-- A settling completes (R132). -/
theorem Excitation.Sound.settle {e : Excitation} (h : e.Sound) {l : Level} (ht : e.target = some l) :
    ({ e with settled := l, target := none } : Excitation).Sound := by
  obtain ⟨hout, ⟨hnone, _⟩ | ⟨hsome, _⟩⟩ := e.sound_iff.1 h
  · rw [ht] at hnone
    cases hnone
  · exact (Excitation.sound_iff _).2 ⟨hout, .inl ⟨rfl, Option.some.inj (ht.symm.trans hsome)⟩⟩

theorem EventQueue.sound_reset : EventQueue.reset.Sound := ⟨by decide, by decide, rfl⟩

theorem EventQueue.Sound.push {q : EventQueue} (h : q.Sound) (e : Event) : (q.push e).Sound := by
  obtain ⟨hlen, hloss, _⟩ := h
  rcases q.push_cases e with ⟨hlt, hpush⟩ | ⟨hfull, hpush⟩ <;> rw [hpush]
  · exact ⟨by simpa using hlt, hloss, by simp [EventQueue.calls]⟩
  · exact ⟨hlen, Nat.min_le_left .., by simp [EventQueue.calls]⟩

theorem EventQueue.Sound.read {q : EventQueue} (h : q.Sound) (n : Nat) : (q.read n).Sound := by
  obtain ⟨hlen, _, _⟩ := h
  refine ⟨?_, Nat.zero_le _, by simp [EventQueue.read, EventQueue.calls]⟩
  simp only [EventQueue.read, List.length_drop]
  omega

theorem State.EventsSound.put {s t : State} (h : s.EventsSound) {k : HostId} {q : EventQueue}
    (ht : t.events = s.events.put k q) (hq : q.Sound) : t.EventsSound := by
  intro x
  rw [ht, PerHost.get_put]
  split
  · exact hq
  · exact h x

/-! ## What every block's operation upholds

No block touches the ports or the reset line; event queues change by pushing, reading and clearing records, and the
excitation by new claims and by completed settlings alone. -/

/-- From one state to the other the ports and the reset line stay, and sound event queues and a sound excitation stay
sound. -/
structure State.Upholds (s t : State) : Prop where
  ports : t.ports = s.ports
  inReset : t.inReset = s.inReset
  events : s.EventsSound → t.EventsSound
  exc : s.exc.Sound → t.exc.Sound

theorem State.Upholds.trans {s t u : State} (h : s.Upholds t) (k : t.Upholds u) : s.Upholds u :=
  ⟨k.ports.trans h.ports, k.inReset.trans h.inReset, k.events ∘ h.events, k.exc ∘ h.exc⟩

theorem State.Upholds.ite {s t u : State} {c : Prop} [Decidable c] (h : s.Upholds t) (k : s.Upholds u) :
    s.Upholds (if c then t else u) := by
  split
  · exact h
  · exact k

/-- An operation beside ports, reset line, events and excitation. -/
theorem State.Upholds.beside {s t : State} (hports : t.ports = s.ports) (hreset : t.inReset = s.inReset)
    (hevents : t.events = s.events) (hexc : t.exc = s.exc) : s.Upholds t :=
  ⟨hports, hreset, fun h => by rwa [State.EventsSound, hevents], fun h => by rwa [hexc]⟩

section Upholds
variable (s : State) (j : JobId)

theorem State.Upholds.refl : s.Upholds s := .beside rfl rfl rfl rfl

theorem State.Upholds.foldl {α : Type} {f : State → α → State} (h : ∀ (t : State) (x : α), t.Upholds (f t x))
    (l : List α) : s.Upholds (l.foldl f s) := by
  induction l generalizing s with
  | nil => exact .refl s
  | cons x xs ih => exact (h s x).trans (ih _)

/-! ### Single updates -/

theorem State.setJob_upholds (r : Job) : s.Upholds (s.setJob j r) := .beside rfl rfl rfl rfl

theorem State.setGroup_upholds (g : GroupId) (r : Group) : s.Upholds (s.setGroup g r) := .beside rfl rfl rfl rfl

theorem State.setSeq_upholds (k : SeqId) (r : Seq) : s.Upholds (s.setSeq k r) := .beside rfl rfl rfl rfl

theorem State.setFrame_upholds (f : FrameId) (r : Frame) : s.Upholds (s.setFrame f r) := .beside rfl rfl rfl rfl

theorem State.setWindow_upholds (h : HostId) (w : WindowId) (r : Window) : s.Upholds (s.setWindow h w r) :=
  .beside rfl rfl rfl rfl

theorem State.withEngine_upholds (e : Engine) : s.Upholds { s with engine := e } := .beside rfl rfl rfl rfl

theorem State.drawn_upholds : s.Upholds s.drawn := .beside rfl rfl rfl rfl

theorem State.drawnFor_upholds {α : Type} (l : List α) : s.Upholds (s.drawnFor l) := .ite (.refl s) s.drawn_upholds

theorem State.emit_upholds (h : HostId) (i : Option JobId) (f : Option FrameId) (b : EventBody) :
    s.Upholds (s.emit h i f b) := ⟨rfl, rfl, fun hs => hs.put rfl ((hs h).push _), id⟩

theorem State.emitAll_upholds (b : EventBody) : s.Upholds (s.emitAll b) :=
  ((s.emit_upholds ..).trans (State.emit_upholds ..)).trans (State.emit_upholds ..)

theorem State.setStanding_upholds (h : HostId) (l : Level) : s.Upholds (s.setStanding h l) :=
  ⟨rfl, rfl, id, fun hs => hs.reclaim _ _ _⟩

theorem State.setTransient_upholds (c : Option Level) : s.Upholds (s.setTransient j c) :=
  ⟨rfl, rfl, id, fun hs => hs.reclaim _ _ _⟩

theorem State.enqueue_upholds : s.Upholds (s.enqueue j) := .beside rfl rfl rfl rfl

theorem State.dequeue_upholds : s.Upholds (s.dequeue j) := .beside rfl rfl rfl rfl

theorem State.releaseConverter_upholds : s.Upholds s.releaseConverter := s.withEngine_upholds _

theorem State.returnFrame_upholds (h : HostId) (f : FrameId) : s.Upholds (s.returnFrame h f) := .beside rfl rfl rfl rfl

/-! ### What a run holds -/

theorem State.occupy_upholds : s.Upholds (s.occupy j) := by
  unfold State.occupy
  split
  · exact .refl s
  · exact .foldl s (fun t g => t.setGroup_upholds g _) _

theorem State.grant_upholds (g : GroupId) : s.Upholds (s.grant g) :=
  (s.setGroup_upholds g _).trans (State.emit_upholds ..)

theorem State.vacate_upholds : s.Upholds (s.vacate j) := by
  unfold State.vacate
  split
  · exact .refl s
  · exact ((State.Upholds.foldl s (fun t g => t.setGroup_upholds g _) _).trans (State.drawnFor_upholds ..)).trans
      (.foldl _ (fun t g => t.grant_upholds g) _)

theorem State.flushDelivery_upholds (h : HostId) : s.Upholds (s.flushDelivery h) :=
  (State.Upholds.foldl s (fun t f => t.returnFrame_upholds h f) _).trans (.beside rfl rfl rfl rfl)

theorem State.releaseFill_upholds : s.Upholds (s.releaseFill j) := by
  unfold State.releaseFill
  split
  · exact .refl s
  · exact (s.returnFrame_upholds ..).trans (State.setJob_upholds ..)

theorem State.releaseRun_upholds : s.Upholds (s.releaseRun j) :=
  (((s.releaseFill_upholds j).trans (State.setTransient_upholds ..)).trans (State.setJob_upholds ..)).trans
    (State.vacate_upholds ..)

theorem State.dropReference_upholds (k : SeqId) : s.Upholds (s.dropReference k) :=
  .ite (.beside rfl rfl rfl rfl) (s.setSeq_upholds ..)

theorem State.freeJob_upholds : s.Upholds (s.freeJob j) :=
  ((s.setJob_upholds j Job.free).trans (State.dropReference_upholds ..)).trans (.beside rfl rfl rfl rfl)

/-! ### Run ends and deadlines -/

theorem State.rest_upholds (st : JobState) : s.Upholds (s.rest j st) :=
  .ite ((s.setJob_upholds ..).trans (State.emit_upholds ..)) (s.setJob_upholds ..)

theorem State.enterPending_upholds (stamp : Time) (mark : Option EdgeMark) : s.Upholds (s.enterPending j stamp mark) :=
  (s.setJob_upholds ..).trans (State.enqueue_upholds ..)

theorem State.endCounted_upholds {late : State → State} (hl : ∀ t : State, t.Upholds (late t)) :
    s.Upholds (s.endCounted late j) := by
  refine (s.setJob_upholds j (s.job j).bookkept).trans (.ite ?_ (State.rest_upholds ..))
  split
  · exact (State.enterPending_upholds ..).trans (hl _)
  · exact State.setJob_upholds ..

theorem State.reportLate_upholds : s.Upholds (s.reportLate j) :=
  (s.setJob_upholds ..).trans (State.emit_upholds ..)

theorem State.dropPending_upholds {late : State → State} (hl : ∀ t : State, t.Upholds (late t)) :
    s.Upholds (s.dropPending late j) :=
  ((s.dequeue_upholds j).trans (State.setJob_upholds ..)).trans (State.endCounted_upholds _ j hl)

theorem State.latePending_upholds {late : State → State} (hl : ∀ t : State, t.Upholds (late t)) :
    s.Upholds (s.latePending late j) := by
  refine (s.reportLate_upholds j).trans ?_
  unfold State.latePending
  split
  · exact State.setJob_upholds ..
  · exact State.dropPending_upholds _ j hl

theorem State.expireAtOnce_upholds : s.Upholds (s.expireAtOnce j) := .ite (s.latePending_upholds j .refl) (.refl s)

theorem State.endRun_upholds : s.Upholds (s.endRun j) := s.endCounted_upholds j fun t => t.expireAtOnce_upholds j

/-! ### Decisions -/

theorem State.refreshBlocked_upholds : s.Upholds s.refreshBlocked := .foldl s (fun t k => t.setJob_upholds k _) _

theorem State.startStep_upholds : s.Upholds (s.startStep j) := by
  unfold State.startStep
  split
  · exact .refl s
  · exact s.withEngine_upholds _

theorem State.run_upholds : s.Upholds (s.run j) := (s.setJob_upholds ..).trans (State.startStep_upholds ..)

theorem State.giveConverter_upholds : s.Upholds (s.giveConverter j) :=
  .ite (s.run_upholds j) ((s.setJob_upholds ..).trans (State.withEngine_upholds ..))

theorem State.tellHolds_upholds : s.Upholds (s.tellHolds j) := by
  unfold State.tellHolds
  split
  · exact s.occupy_upholds j
  · exact .foldl s (fun t _ => .ite (t.emit_upholds ..) (.refl t)) _

theorem State.startRun_upholds (f : FrameId) : s.Upholds (s.startRun j f) :=
  ((((s.dequeue_upholds j).trans (State.setJob_upholds ..)).trans (State.setTransient_upholds ..)).trans
    (State.tellHolds_upholds ..)).trans (State.giveConverter_upholds ..)

theorem State.takeFrame_upholds (f : FrameId) (rest : List FrameId) : s.Upholds (s.takeFrame j f rest) :=
  .beside rfl rfl rfl rfl

theorem State.reclaimFrame_upholds (f : FrameId) (rest : List FrameId) : s.Upholds (s.reclaimFrame j f rest) :=
  (s.emit_upholds ..).trans (.beside rfl rfl rfl rfl)

theorem State.refuseRun_upholds : s.Upholds (s.refuseRun j) :=
  (((s.dequeue_upholds j).trans (State.setJob_upholds ..)).trans (State.emit_upholds ..)).trans
    (State.endRun_upholds ..)

theorem State.resumeRun_upholds : s.Upholds (s.resumeRun j) := by
  refine (s.dequeue_upholds j).trans ?_
  unfold State.resumeRun
  dsimp only
  split
  · exact State.giveConverter_upholds ..
  · exact (State.setJob_upholds ..).trans (State.giveConverter_upholds ..)
  · exact ((State.setFrame_upholds ..).trans (State.setJob_upholds ..)).trans (State.giveConverter_upholds ..)

theorem State.selectFrom_upholds (n : Nat) : s.Upholds (State.selectFrom n s) := by
  induction n generalizing s with
  | zero => exact .refl s
  | succ n ih =>
    unfold State.selectFrom
    split
    · exact .refl s
    · rename_i k _
      refine .ite (s.resumeRun_upholds k) ?_
      split
      · exact (s.takeFrame_upholds ..).trans (State.startRun_upholds ..)
      · exact (s.reclaimFrame_upholds ..).trans (State.startRun_upholds ..)
      · exact (s.refuseRun_upholds k).trans (ih _)

theorem State.freeDecision_upholds : s.Upholds s.freeDecision := by
  have answered : s.Upholds { s with decisionDue := false } := .beside rfl rfl rfl rfl
  have refreshed := answered.trans (State.refreshBlocked_upholds _)
  unfold State.freeDecision
  dsimp only
  split
  · exact .ite (refreshed.trans (State.withEngine_upholds ..)) (refreshed.trans (State.selectFrom_upholds ..))
  · exact .ite (refreshed.trans (State.withEngine_upholds ..)) refreshed
  all_goals exact .refl s

theorem State.preempt_upholds : s.Upholds (s.preempt j) := (s.setJob_upholds ..).trans (State.enqueue_upholds ..)

/-- A job leaves the converter, and the Dispatcher decides anew. -/
theorem State.yield_upholds : s.Upholds ((s.preempt j).releaseConverter).freeDecision :=
  ((s.preempt_upholds j).trans (State.releaseConverter_upholds _)).trans (State.freeDecision_upholds _)

theorem State.displace_upholds : s.Upholds s.displace := by
  unfold State.displace
  split
  · exact .refl s
  · exact s.yield_upholds _

theorem State.arrival_upholds : s.Upholds s.arrival := .ite s.freeDecision_upholds (.refl s)

theorem State.entryArrival_upholds (c : JobClass) : s.Upholds (s.entryArrival c) :=
  .ite s.displace_upholds s.arrival_upholds

theorem State.intervalArrival_upholds : s.Upholds s.intervalArrival := .ite s.displace_upholds s.arrival_upholds

theorem State.boundaryDecision_upholds : s.Upholds (s.boundaryDecision j) :=
  s.refreshBlocked_upholds.trans (.ite (State.yield_upholds ..) (State.startStep_upholds ..))

/-! ### Triggers -/

theorem State.missTrigger_upholds (source : TriggerSource) (stamp : Time) : s.Upholds (s.missTrigger j source stamp) :=
  .ite ((s.setJob_upholds ..).trans (State.emit_upholds ..)) (s.setJob_upholds ..)

theorem State.takeTriggerThen_upholds {entered : State → State} (he : ∀ t : State, t.Upholds (entered t))
    (source : TriggerSource) (stamp : Time) (mark : Option EdgeMark) :
    s.Upholds (s.takeTriggerThen entered j source stamp mark) := by
  unfold State.takeTriggerThen
  split
  · exact ((s.enterPending_upholds ..).trans (State.expireAtOnce_upholds ..)).trans (he _)
  · exact s.setJob_upholds ..
  · exact s.missTrigger_upholds ..
  · exact .refl s

theorem State.takeTrigger_upholds (source : TriggerSource) (stamp : Time) (mark : Option EdgeMark) :
    s.Upholds (s.takeTrigger j source stamp mark) :=
  s.takeTriggerThen_upholds j (fun t => t.entryArrival_upholds _) source stamp mark

theorem State.edgeEntry_upholds (p : Presentation) (c : JobClass) : s.Upholds (s.edgeEntry p c) :=
  .ite (.ite (.beside rfl rfl rfl rfl) (s.drawn_upholds.trans (State.freeDecision_upholds _)))
    (s.entryArrival_upholds c)

theorem State.present_upholds (o : Origin) : s.Upholds (s.present o) := by
  unfold State.present
  split
  · exact .refl s
  · rename_i p _
    have taken : s.Upholds { s with waiting := s.waiting.erase p } := .beside rfl rfl rfl rfl
    exact (taken.trans (State.takeTriggerThen_upholds _ _ (fun u => u.edgeEntry_upholds p _) ..)).trans
      (.ite (State.freeDecision_upholds _) (.refl _))

theorem State.periodTrigger_upholds : s.Upholds (s.periodTrigger j) := by
  unfold State.periodTrigger
  split
  · exact .refl s
  · exact .ite ((s.setJob_upholds ..).trans (State.takeTrigger_upholds ..)) (.refl s)

theorem State.risingEdge_upholds (line : Line) : s.Upholds (s.risingEdge line) :=
  .ite (.refl s) (.beside rfl rfl rfl rfl)

/-! ### The completion of a step -/

theorem State.judge_upholds (ref : Option WindowId) (index : Nat) (channel : Channel) (code : BitVec 12) :
    s.Upholds (s.judge j ref index channel code) := by
  have hevent (t : State) (r : Window) (zone : Zone) : t.Upholds (t.windowEvent r zone) := by
    unfold State.windowEvent
    split
    · exact .refl t
    · exact .ite (.beside rfl rfl rfl rfl) (.refl t)
  unfold State.judge
  split
  · exact .refl s
  · refine .ite (State.Upholds.trans (.trans ?_ (hevent ..)) (State.setWindow_upholds ..)) (.refl s)
    exact .ite (s.emit_upholds ..) (.refl s)

theorem State.writeSample_upholds (p : StepInProgress) (code : BitVec 12) (stale : Bool) (zone : Zone) :
    s.Upholds (s.writeSample j p code stale zone) := by
  unfold State.writeSample
  split
  · exact .refl s
  · exact s.setFrame_upholds ..

theorem State.deliver_upholds : s.Upholds (s.deliver j) := by
  unfold State.deliver
  dsimp only
  split
  · exact .refl s
  · rename_i f _
    have joined : s.Upholds { s.setFrame f ((s.frames.at f).finish (s.job j)) with
        delivery := s.delivery.put (s.job j).owner (s.delivery.get (s.job j).owner ++ [f]) } := .beside rfl rfl rfl rfl
    exact (joined.trans (State.emit_upholds ..)).trans (State.setJob_upholds ..)

theorem State.completeRun_upholds : s.Upholds (s.completeRun j) :=
  ((((((s.deliver_upholds j).trans (State.setTransient_upholds ..)).trans (State.setJob_upholds ..)).trans
    (State.vacate_upholds ..)).trans (State.endRun_upholds ..)).trans (State.releaseConverter_upholds _)).trans
    (State.freeDecision_upholds _)

theorem State.stepOfRun_upholds (p : StepInProgress) (code : BitVec 12) (stale : Bool) :
    s.Upholds (s.stepOfRun p code stale) :=
  (((s.writeSample_upholds ..).trans (State.judge_upholds ..)).trans (State.setJob_upholds ..)).trans
    (.ite (State.completeRun_upholds ..) (State.boundaryDecision_upholds ..))

theorem State.endAborted_upholds : s.Upholds (s.endAborted j) := (s.setJob_upholds ..).trans (State.emit_upholds ..)

theorem State.exitAborted_upholds : s.Upholds (s.exitAborted j) := by
  refine (s.endAborted_upholds j).trans ?_
  unfold State.exitAborted
  dsimp only
  split
  · exact .ite ((State.enterPending_upholds ..).trans (State.expireAtOnce_upholds ..)) (.refl _)
  · exact .refl _

theorem State.exitStopping_upholds : s.Upholds (s.exitStopping j) := by
  unfold State.exitStopping
  split
  · exact s.exitAborted_upholds j
  · exact s.endRun_upholds j
  · exact s.freeJob_upholds j
  · exact .refl s

theorem State.stoppingExit_upholds : s.Upholds (s.stoppingExit j) :=
  (((s.releaseRun_upholds j).trans (State.exitStopping_upholds ..)).trans (State.releaseConverter_upholds _)).trans
    (State.freeDecision_upholds _)

theorem State.stepDone_upholds (p : StepInProgress) (code : BitVec 12) : s.Upholds (s.stepDone p code) := by
  refine (s.withEngine_upholds { s.engine with counter := countStep s.engine.counter, step := none }).trans ?_
  unfold State.stepDone
  dsimp only
  split
  · exact State.stepOfRun_upholds ..
  · exact State.stoppingExit_upholds ..
  all_goals exact .refl _

theorem State.stepComplete_upholds (code : BitVec 12) : s.Upholds (s.stepComplete code) := by
  unfold State.stepComplete
  split
  · exact .refl s
  · exact .ite (s.stepDone_upholds ..) (.refl s)

/-! ### Calibrations, settlings, deadlines and leases -/

theorem State.calPass_upholds : s.Upholds s.calPass := by
  have reported : s.Upholds s.reportCalDone := .foldl s (fun t _ => .ite (t.emit_upholds ..) (.refl t)) _
  have recovered : s.Upholds s.passReported := .ite (reported.trans (State.emitAll_upholds ..)) reported
  exact recovered.trans (State.withEngine_upholds ..)

theorem State.calFail_upholds : s.Upholds s.calFail := by
  have reported : s.Upholds s.failReported :=
    .ite ((s.emitAll_upholds _).trans (State.emitAll_upholds ..)) (s.emitAll_upholds _)
  exact reported.trans (State.withEngine_upholds ..)

theorem State.calComplete_upholds (result : CalResult) : s.Upholds (s.calComplete result) := by
  refine .ite ?_ (.refl s)
  cases result with
  | pass => exact s.calPass_upholds.trans (State.freeDecision_upholds _)
  | fail => exact s.calFail_upholds.trans (State.freeDecision_upholds _)

theorem State.settledReport_upholds : s.Upholds s.settledReport := by
  refine .ite ?_ s.arrival_upholds
  split
  · exact .refl s
  · exact .ite (s.run_upholds _) (.refl s)

theorem State.settle_upholds : s.Upholds s.settle := by
  unfold State.settle
  split
  · exact .refl s
  · rename_i l ht
    have completed : s.Upholds { s with exc := { s.exc with settled := l, target := none } } :=
      ⟨rfl, rfl, id, fun hs => hs.settle ht⟩
    exact .ite (completed.trans (State.settledReport_upholds _)) (.refl s)

theorem State.lateInQueue_upholds : s.Upholds (s.lateInQueue j) := by
  have late : s.Upholds (s.latePending (fun u => u.expireAtOnce j) j) :=
    s.latePending_upholds j fun u => u.expireAtOnce_upholds j
  exact .ite (late.trans (State.entryArrival_upholds ..)) late

theorem State.dropSettling_upholds : s.Upholds (s.dropSettling j) :=
  (((s.releaseRun_upholds j).trans (State.releaseConverter_upholds _)).trans (State.endRun_upholds ..)).trans
    (State.freeDecision_upholds _)

theorem State.dropPreempted_upholds : s.Upholds (s.dropPreempted j) :=
  (((s.dequeue_upholds j).trans (State.releaseRun_upholds ..)).trans (State.endRun_upholds ..)).trans
    (State.arrival_upholds _)

theorem State.lateInHand_upholds {drop : State → State} (hd : ∀ t : State, t.Upholds (drop t)) :
    s.Upholds (s.lateInHand j drop) := by
  refine (s.reportLate_upholds j).trans ?_
  unfold State.lateInHand
  dsimp only
  split
  · exact State.setJob_upholds ..
  · exact hd _

theorem State.lateBy_upholds : s.Upholds (s.lateBy j) := by
  unfold State.lateBy
  split
  · exact s.lateInQueue_upholds j
  · exact s.lateInHand_upholds j fun t => t.dropSettling_upholds j
  · exact s.lateInHand_upholds j fun t => t.setJob_upholds ..
  · exact s.lateInHand_upholds j fun t => t.dropPreempted_upholds j
  · exact s.setJob_upholds ..
  all_goals exact .refl s

theorem State.deadlineReached_upholds : s.Upholds (s.deadlineReached j) := .ite (s.lateBy_upholds j) (.refl s)

theorem State.leaseReached_upholds (g : GroupId) : s.Upholds (s.leaseReached g) :=
  .ite (((s.setGroup_upholds g _).trans (State.emit_upholds ..)).trans (State.arrival_upholds _)) (.refl s)

end Upholds

end Sys2Proof.Machine

namespace Sys2Proof.Machine

/-! ## Commands uphold it

A block upholds what its reply to every state does. -/

/-- A block of the command table whose reply upholds ports, reset line, events and excitation. -/
def UpholdsAll (block : State → Reply) : Prop := ∀ s : State, s.Upholds (block s).state

theorem UpholdsAll.expecting {block : State → Reply} (hb : UpholdsAll block) (n : Nat) (args : List Byte) :
    UpholdsAll (expecting n args block) := by
  intro s
  unfold Machine.expecting
  split
  · exact hb s
  · exact .refl s

theorem UpholdsAll.jobCommand {body : JobId → State → Reply} (hb : ∀ j, UpholdsAll (body j)) (h : HostId)
    (args : List Byte) : UpholdsAll (jobCommand h args body) := by
  refine UpholdsAll.expecting (fun s => ?_) 1 args
  split
  · exact .refl s
  · exact hb _ s

theorem UpholdsAll.groupCommand {body : GroupId → State → Reply} (hb : ∀ g, UpholdsAll (body g)) (n : Nat)
    (args : List Byte) : UpholdsAll (groupCommand n args body) := by
  refine UpholdsAll.expecting (fun s => ?_) n args
  split
  · exact .refl s
  · exact hb _ s

theorem UpholdsAll.seqCommand {body : SeqId → State → Reply} (hb : ∀ k, UpholdsAll (body k)) (args : List Byte) :
    UpholdsAll (seqCommand args body) := by
  refine UpholdsAll.expecting (fun s => ?_) 1 args
  split
  · exact .refl s
  · split
    · exact hb _ s
    · exact .refl s

/-! ### Sequences (R99, R101, R102) -/

theorem State.defineAt_upholds (s : State) (host : HostId) (a : SeqArgs) (k : SeqId) :
    s.Upholds (s.defineAt host a k).state := by
  unfold State.defineAt
  split
  · exact .refl s
  · exact .beside rfl rfl rfl rfl

theorem State.defineSeq_upholds (s : State) (host : HostId) (a : SeqArgs) : s.Upholds (s.defineSeq host a).state := by
  unfold State.defineSeq
  split
  · split
    · exact .refl s
    · exact s.defineAt_upholds ..
  · dsimp only
    split
    · exact s.defineAt_upholds ..
    · split
      · exact .refl s
      · split
        · exact .refl s
        · exact s.defineAt_upholds ..

theorem State.deleteSeq_upholds (host : HostId) (k : SeqId) : UpholdsAll (State.deleteSeq host k) := by
  intro s
  unfold State.deleteSeq
  dsimp only
  split
  · exact .refl s
  · split
    · exact .refl s
    · exact .beside rfl rfl rfl rfl

theorem State.readSeq_upholds (host : HostId) (k : SeqId) : UpholdsAll (State.readSeq host k) := by
  intro s
  unfold State.readSeq
  dsimp only
  split <;> exact .refl s

/-! ### Jobs (R3, R5, R17, R19, R20, R82) -/

theorem State.createJob_upholds (s : State) (host : HostId) (a : JobArgs) : s.Upholds (s.createJob host a).state := by
  unfold State.createJob
  dsimp only
  split
  · exact .refl s
  · split
    · exact .refl s
    · split
      · exact .refl s
      · exact (s.setJob_upholds ..).trans (State.setSeq_upholds ..)

theorem State.armJob_upholds (j : JobId) : UpholdsAll (State.armJob j) := by
  intro s
  unfold State.armJob
  cases (s.job j).state
  case idle | done => exact s.setJob_upholds ..
  all_goals exact .refl s

theorem State.disarmJob_upholds (j : JobId) : UpholdsAll (State.disarmJob j) := by
  intro s
  unfold State.disarmJob
  dsimp only
  cases (s.job j).state
  case pending => exact (s.dequeue_upholds j).trans (State.setJob_upholds ..)
  case free | idle => exact .refl s
  all_goals exact s.setJob_upholds ..

theorem State.startJob_upholds (j : JobId) : UpholdsAll (State.startJob j) := by
  intro s
  unfold State.startJob
  cases (s.job j).state
  case free | idle | done => exact .refl s
  all_goals exact s.takeTrigger_upholds ..

theorem State.abortJob_upholds (j : JobId) : UpholdsAll (State.abortJob j) := by
  intro s
  have cleared := s.setJob_upholds j { s.job j with latch := none }
  unfold State.abortJob
  dsimp only
  split
  · exact (((cleared.trans (State.dequeue_upholds ..)).trans (State.setJob_upholds ..)).trans
      (State.setJob_upholds ..)).trans (State.emit_upholds ..)
  · exact (((cleared.trans (State.releaseRun_upholds ..)).trans (State.releaseConverter_upholds _)).trans
      (State.endAborted_upholds ..)).trans (State.freeDecision_upholds _)
  · exact (((cleared.trans (State.dequeue_upholds ..)).trans (State.releaseRun_upholds ..)).trans
      (State.endAborted_upholds ..)).trans (State.arrival_upholds _)
  · exact cleared.trans (State.setJob_upholds ..)
  · exact cleared.trans (State.setJob_upholds ..)
  all_goals exact .refl s

theorem State.deleteJob_upholds (j : JobId) : UpholdsAll (State.deleteJob j) := by
  intro s
  unfold State.deleteJob
  cases (s.job j).state
  case idle | done => exact s.freeJob_upholds j
  all_goals exact .refl s

/-! ### The other blocks (R67, R68, R116, R118, R127, R140, R143, R144, R153, R164) -/

theorem State.fetchFrame_upholds (host : HostId) : UpholdsAll (State.fetchFrame host) := by
  intro s
  unfold State.fetchFrame
  split
  · exact .refl s
  · rename_i f rest _
    have fetched : s.Upholds { (s.returnFrame host f) with delivery := s.delivery.put host rest } :=
      .beside rfl rfl rfl rfl
    exact fetched.trans (State.arrival_upholds _)

theorem State.flushFrames_upholds (host : HostId) : UpholdsAll (State.flushFrames host) := by
  intro s
  unfold State.flushFrames
  split
  · exact .refl s
  · exact (s.flushDelivery_upholds host).trans (State.arrival_upholds _)

theorem State.acquireHold_upholds (host : HostId) (lease : Nat) (g : GroupId) :
    UpholdsAll (State.acquireHold host lease g) := by
  intro s
  have taken : s.Upholds (s.takeGroup host g lease).state := by
    unfold State.takeGroup
    split <;> exact (s.setGroup_upholds g _).trans (State.arrival_upholds _)
  unfold State.acquireHold
  dsimp only
  split
  · exact .refl s
  · split
    · exact .refl s
    · split
      · exact .refl s
      · exact taken

theorem State.renewHold_upholds (host : HostId) (g : GroupId) : UpholdsAll (State.renewHold host g) := by
  intro s
  unfold State.renewHold
  dsimp only
  split
  · exact s.setGroup_upholds ..
  · exact .refl s

theorem State.releaseHold_upholds (host : HostId) (g : GroupId) : UpholdsAll (State.releaseHold host g) := by
  intro s
  unfold State.releaseHold
  dsimp only
  split
  · exact (s.setGroup_upholds g _).trans (State.arrival_upholds _)
  · exact .refl s

theorem State.claimExc_upholds (host : HostId) (l : Level) : UpholdsAll (State.claimExc host l) := by
  intro s
  unfold State.claimExc
  split
  · exact .refl s
  · exact (s.setStanding_upholds host l).trans (State.arrival_upholds _)

theorem State.requestCal_upholds (host : HostId) : UpholdsAll (State.requestCal host) := by
  intro s
  unfold State.requestCal
  split
  · exact .refl s
  · exact (s.withEngine_upholds { s.engine with requesters := s.engine.requesters.put host true }).trans
      (State.arrival_upholds _)

theorem State.setRequest_upholds (s : State) (host : HostId) (n : Option Nat) : s.Upholds (s.setRequest host n) :=
  s.withEngine_upholds _

theorem State.setCalInterval_upholds (host : HostId) (n : Nat) : UpholdsAll (State.setCalInterval host n) := by
  intro s
  unfold State.setCalInterval
  split
  · exact .refl s
  · exact (s.setRequest_upholds host _).trans (.ite (.refl _) (State.intervalArrival_upholds _))

theorem State.readEvents_upholds (host : HostId) (n : Nat) : UpholdsAll (State.readEvents host n) := by
  intro s
  unfold State.readEvents
  dsimp only
  split
  · exact .refl s
  · split
    · exact .refl s
    · exact ⟨rfl, rfl, fun hs => hs.put rfl ((hs host).read n), id⟩

/-! ### HOST_RESET (R183) -/

theorem State.tearJob_upholds (s : State) (j : JobId) : s.Upholds (s.tearJob j) := by
  rcases (s.job j).state.torn_cases with hs | hs | hs | hs | hs
  · rw [State.tearJob_of_free hs]
    exact .refl s
  · rw [State.tearJob_of_converting hs]
    exact s.setJob_upholds ..
  · rw [State.tearJob_of_settling hs]
    exact ((s.releaseRun_upholds j).trans (State.releaseConverter_upholds _)).trans (State.freeJob_upholds ..)
  · rw [State.tearJob_of_preempted hs]
    exact ((s.dequeue_upholds j).trans (State.releaseRun_upholds ..)).trans (State.freeJob_upholds ..)
  · rw [State.tearJob_of_waiting hs]
    exact (s.dequeue_upholds j).trans (State.freeJob_upholds ..)

theorem State.tearSeq_upholds (host : HostId) (s : State) (k : SeqId) : s.Upholds (State.tearSeq host s k) :=
  .ite (.ite (.beside rfl rfl rfl rfl) (s.setSeq_upholds ..)) (.refl s)

theorem State.tearGroup_upholds (host : HostId) (s : State) (g : GroupId) : s.Upholds (State.tearGroup host s g) :=
  .ite (s.setGroup_upholds ..) (.refl s)

theorem State.tearEngine_upholds (s : State) (host : HostId) : s.Upholds (s.tearEngine host) :=
  (s.setRequest_upholds host none).trans (State.withEngine_upholds ..)

theorem State.tearRecords_upholds (s : State) (host : HostId) : s.Upholds (s.tearRecords host) :=
  ⟨rfl, rfl, fun hs => hs.put rfl EventQueue.sound_reset, id⟩

theorem State.teardown_upholds (s : State) (host : HostId) : s.Upholds (s.teardown host) := by
  have jobs : s.Upholds (s.tearJobs host) := (s.drawnFor_upholds _).trans (.foldl _ State.tearJob_upholds _)
  have seqs := jobs.trans (.foldl _ (State.tearSeq_upholds host) allSeqs)
  have claims := (seqs.trans (State.tearEngine_upholds _ host)).trans (State.setStanding_upholds _ host .off)
  have store := claims.trans (State.flushDelivery_upholds _ host)
  exact (store.trans (.foldl _ (State.tearGroup_upholds host) allGroups)).trans (State.tearRecords_upholds ..)

theorem State.tornArrival_upholds (s t : State) : t.Upholds (s.tornArrival t) :=
  .ite t.intervalArrival_upholds (.ite t.arrival_upholds (.refl t))

theorem State.hostReset_upholds (host : HostId) : UpholdsAll (State.hostReset host) := by
  intro s
  dsimp only [State.hostReset, State.answer]
  exact (s.teardown_upholds host).trans (s.tornArrival_upholds (s.teardown host))

end Sys2Proof.Machine

namespace Sys2Proof.Machine

/-! ## The ports (R170 to R177) -/

/-- A command code names a command of the calling host (R179). -/
theorem commandOf_caller {h : HostId} {code : Byte} {args : List Byte} {i : Instr}
    (hi : commandOf h code args = some i) : i.caller = some h := by
  unfold commandOf at hi
  split at hi <;> cases hi <;> rfl

theorem checkFrame_caller {h : HostId} {frame : List Byte} {i : Instr} (hi : checkFrame h frame = .command i) :
    i.caller = some h := by
  unfold checkFrame at hi
  dsimp only at hi
  split at hi
  · cases hi
  · split at hi
    · cases hi
    · split at hi
      · cases hi
      · cases hi
        exact commandOf_caller ‹_›

/-- What `State.PortsSound` says of the port of a host after the release. -/
structure Port.SoundFor (p : Port) (h : HostId) : Prop where
  fresh : p.transaction = .shifting → p.Fresh
  hands : ∀ i, p.inHand = some i → i.caller = some h
  slot : p.SlotSound

theorem State.portsSound_iff {s : State} (hr : s.inReset = false) :
    s.PortsSound ↔ ∀ h, (s.port h).SoundFor h :=
  ⟨fun ⟨hfresh, hhands, hslot⟩ h => ⟨hfresh h, hhands h, hslot hr h⟩,
    fun hp => ⟨fun h => (hp h).fresh, fun h => (hp h).hands, fun _ h => (hp h).slot⟩⟩

section Port
variable {p : Port} {h : HostId}

/-- A transaction that begins shifts out a slot only when it is READY (R170, R174, R176). -/
theorem Port.SoundFor.begin (hp : p.SoundFor h) : p.begin.SoundFor h := by
  obtain ⟨_, hhands, hready, hempty, hwaiting, _⟩ := hp
  unfold Port.begin
  dsimp only
  split
  · exact ⟨fun _ => ⟨rfl, rfl, rfl, rfl⟩, hhands, hready, hempty, hwaiting, fun _ _ => ‹_›⟩
  · exact ⟨fun _ => ⟨rfl, rfl, rfl, rfl⟩, hhands, hready, hempty, hwaiting, fun _ hout => nomatch hout⟩

/-- Outside a transaction soundness speaks of the slot, its readiness and what is in hand alone. -/
theorem Port.SoundFor.ended (hp : p.SoundFor h) {q : Port} (ht : q.transaction = .idle) (hslot : q.slot = p.slot)
    (hready : q.readiness = p.readiness) (hhand : q.inHand = p.inHand) (hprepared : q.prepared = p.prepared) :
    q.SoundFor h := by
  obtain ⟨_, hhands, hslots, hempty, hwaiting, _⟩ := hp
  refine ⟨fun hs => ?_, by rwa [hhand], by rwa [hready, hslot], by rwa [hready, hhand, hprepared],
    by rwa [hready, hhand, hprepared], fun hs => ?_⟩ <;> rw [ht] at hs <;> cases hs

/-- What the clocks of a transaction leave as it was. -/
structure Port.Clocked (p q : Port) : Prop where
  slot : q.slot = p.slot
  readiness : q.readiness = p.readiness
  inHand : q.inHand = p.inHand
  prepared : q.prepared = p.prepared

theorem Port.sckRise_clocked (p : Port) (b : Bool) : p.Clocked (p.sckRise b) := by
  unfold Port.sckRise
  split
  · exact ⟨rfl, rfl, rfl, rfl⟩
  · exact ⟨rfl, rfl, rfl, rfl⟩
  · dsimp only
    split <;> exact ⟨rfl, rfl, rfl, rfl⟩

theorem Port.sckFall_clocked (p : Port) : p.Clocked p.sckFall := by
  unfold Port.sckFall
  split <;> exact ⟨rfl, rfl, rfl, rfl⟩

theorem Port.Clocked.trans {p q r : Port} (h : p.Clocked q) (k : q.Clocked r) : p.Clocked r :=
  ⟨k.slot.trans h.slot, k.readiness.trans h.readiness, k.inHand.trans h.inHand, k.prepared.trans h.prepared⟩

theorem Port.clocked_clocked (p : Port) (sdi : List Bool) : p.Clocked (p.clocked sdi) := by
  induction sdi generalizing p with
  | nil => exact ⟨rfl, rfl, rfl, rfl⟩
  | cons b sdi ih => exact ((p.sckRise_clocked b).trans (Port.sckFall_clocked _)).trans (ih _)

/-- A WAITING port between transactions: its slot is empty, and one command is in hand or one response prepared (R172,
R173). -/
theorem Port.soundFor_of_waiting (ht : p.transaction = .idle) (hslot : p.slot = none) (hready : p.readiness = .waiting)
    (hone : p.inHand.isSome ≠ p.prepared.isSome) (hhands : ∀ i, p.inHand = some i → i.caller = some h) :
    p.SoundFor h := by
  refine ⟨?_, hhands, ?_, ?_, fun _ => hone, ?_⟩ <;> simp [ht, hslot, hready]

theorem Port.examine_soundFor (p : Port) (h : HostId) (now : Time) (ht : p.transaction = .idle) :
    (p.examine h now).SoundFor h := by
  unfold Port.examine
  dsimp only
  split
  case h_4 i hi =>
    refine Port.soundFor_of_waiting ht rfl rfl (by simp) fun j hj => ?_
    cases hj
    exact checkFrame_caller hi
  all_goals exact Port.soundFor_of_waiting ht rfl rfl (by simp) fun _ hj => nomatch hj

theorem Port.SoundFor.finish (hp : p.SoundFor h) (now : Time) (sdi : List Bool) : (p.finish h now sdi).SoundFor h := by
  obtain ⟨hslot, hready, hhand, hprepared⟩ := p.clocked_clocked sdi
  have hended : ({ p.clocked sdi with transaction := .idle } : Port).SoundFor h :=
    hp.ended rfl hslot hready hhand hprepared
  unfold Port.finish
  dsimp only
  split
  · exact hp
  · exact hp.ended rfl rfl rfl rfl rfl
  · split
    · exact hended
    · split
      · exact hended
      · exact Port.examine_soundFor _ h now rfl

/-- READY excludes a command in hand and a response in preparation (R173). -/
theorem Port.SoundFor.waiting (hp : p.SoundFor h) (hbusy : p.inHand ≠ none ∨ p.prepared ≠ none) :
    p.readiness = .waiting := by
  obtain ⟨_, _, _, hempty, _, _⟩ := hp
  cases hr : p.readiness with
  | waiting => rfl
  | ready =>
    obtain ⟨hhand, hprepared⟩ := hempty hr
    exact (hbusy.elim (· hhand) (· hprepared)).elim

theorem Port.SoundFor.place (hp : p.SoundFor h) : p.place.SoundFor h := by
  unfold Port.place
  split
  · exact hp
  · rename_i r hr
    have hwait := hp.waiting (.inr (by simp [hr]))
    obtain ⟨hfresh, hhands, _, _, hone, _⟩ := hp
    have hhand : p.inHand = none := by simpa [hr] using hone hwait
    exact ⟨hfresh, hhands, by simp, fun _ => ⟨hhand, rfl⟩, (fun hw => nomatch hw), fun _ _ => rfl⟩

/-- A block answers the command in hand (R173). -/
theorem Port.SoundFor.answered (hp : p.SoundFor h) {i : Instr} (hi : p.inHand = some i) (r : Response) :
    ({ p with inHand := none, prepared := some r } : Port).SoundFor h := by
  have hwait := hp.waiting (.inl (by simp [hi]))
  obtain ⟨hfresh, _, hslot, _, _, hout⟩ := hp
  exact ⟨hfresh, (fun _ hj => nomatch hj), hslot, (fun hr => nomatch hwait.symm.trans hr), fun _ => by simp, hout⟩

end Port

/-! ## Every command and every step -/

/-- What statement O57 says of a state. -/
structure State.Outward (s : State) : Prop where
  events : s.EventsSound
  exc : s.exc.Sound
  ports : s.PortsSound

theorem State.Upholds.outward {s t : State} (h : s.Upholds t) (hs : s.Outward) : t.Outward := by
  refine ⟨h.events hs.events, h.exc hs.exc, ?_⟩
  have hports := hs.ports
  unfold State.PortsSound State.HandsSound State.port at hports ⊢
  rwa [h.ports, h.inReset]

theorem State.asserted_outward (s : State) : s.asserted.Outward := by
  obtain ⟨hevents, hexc, hports, _⟩ := resetIsSound State.reset (.inl rfl)
  exact State.Upholds.outward (s := State.reset) (.beside rfl rfl rfl rfl) ⟨hevents, hexc, hports⟩

section Outward
variable {s : State} (hs : s.Outward)
include hs

theorem State.Outward.release (alloc : BitVec 2) (levels : LineLevels) (csLow : PerHost Bool) :
    (s.release alloc levels csLow).Outward := by
  obtain ⟨hevents, hexc, hports, _⟩ :=
    resetIsSound (releasedState alloc levels csLow) (.inr ⟨alloc, levels, csLow, rfl⟩)
  unfold State.release
  split
  · exact State.Upholds.outward (s := releasedState alloc levels csLow) (.beside rfl rfl rfl rfl) ⟨hevents, hexc, hports⟩
  · exact hs

theorem State.Outward.live {f : State → State} (hf : s.inReset = false → (f s).Outward) : (s.live f).Outward := by
  unfold State.live
  split
  · exact hs
  · exact hf (Bool.eq_false_iff.2 ‹_›)

/-- One port is replaced by a sound one. -/
theorem State.Outward.setPort (hr : s.inReset = false) {h : HostId} {p : Port}
    (hp : (s.port h).SoundFor h → p.SoundFor h) : (s.setPort h p).Outward := by
  have hports := (State.portsSound_iff hr).1 hs.ports
  refine ⟨hs.events, hs.exc, (State.portsSound_iff (s := s.setPort h p) hr).2 fun k => ?_⟩
  rw [State.port, State.setPort_ports, PerHost.get_put]
  split
  · rename_i hk
    rw [hk]
    exact hp (hports h)
  · exact hports k

theorem State.Outward.take {block : State → Reply} (hb : UpholdsAll block) (h : HostId) (i : Instr) :
    (s.take h i block).Outward := by
  unfold State.take
  split
  · rename_i hc
    obtain ⟨hr, hi⟩ := (s.carries_iff h i).1 hc
    have hkept := hb s
    have hhand : ((block s).state.port h).inHand = some i := by rwa [State.port, hkept.ports]
    exact (hkept.outward hs).setPort (hkept.inReset.trans hr) fun hp => hp.answered hhand _
  · exact hs

theorem State.Outward.beginTransaction (hr : s.inReset = false) (h : HostId) : (s.beginTransaction h).Outward := by
  unfold State.beginTransaction
  split
  · exact hs.setPort hr Port.SoundFor.begin
  · exact hs

/-- The successor of every command. -/
theorem State.Outward.exec {t : State} {i : Instr} (hi : exec i s = .next t) : t.Outward := by
  have hnext {u : State} (hu : u.Outward) (hi : Host.Outcome.next (φ := Fault) (ρ := Refusal) u = .next t) :
      t.Outward := by
    cases hi
    exact hu
  have hlive {f : State → State} (hf : s.Upholds (f s)) : (s.live f).Outward := hs.live fun _ => hf.outward hs
  cases i with
  | resetNAssert => exact hnext s.asserted_outward hi
  | resetNRelease alloc levels csLow => exact hnext (hs.release alloc levels csLow) hi
  | transactionBegin host => exact hnext (hs.live fun hr => hs.beginTransaction hr host) hi
  | transactionEnd host sdi => exact hnext (hs.live fun hr => hs.setPort hr fun hp => hp.finish _ sdi) hi
  | responseReady host => exact hnext (hs.live fun hr => hs.setPort hr Port.SoundFor.place) hi
  | nop host args => exact hnext (hs.take (.expecting (fun u => .refl u) _ _) _ _) hi
  | status host args => exact hnext (hs.take (.expecting (fun u => u.drawn_upholds) _ _) _ _) hi
  | defineSeq host args =>
    refine hnext (hs.take (fun u => ?_) _ _) hi
    split
    · exact .refl u
    · exact u.defineSeq_upholds ..
  | deleteSeq host args => exact hnext (hs.take (.seqCommand (State.deleteSeq_upholds host) _) _ _) hi
  | readSeq host args => exact hnext (hs.take (.seqCommand (State.readSeq_upholds host) _) _ _) hi
  | createJob host args =>
    refine hnext (hs.take (.expecting (fun u => ?_) _ _) _ _) hi
    split
    · exact .refl u
    · exact u.createJob_upholds ..
  | armJob host args => exact hnext (hs.take (.jobCommand State.armJob_upholds _ _) _ _) hi
  | disarmJob host args => exact hnext (hs.take (.jobCommand State.disarmJob_upholds _ _) _ _) hi
  | startJob host args => exact hnext (hs.take (.jobCommand State.startJob_upholds _ _) _ _) hi
  | abortJob host args => exact hnext (hs.take (.jobCommand State.abortJob_upholds _ _) _ _) hi
  | deleteJob host args => exact hnext (hs.take (.jobCommand State.deleteJob_upholds _ _) _ _) hi
  | jobStatus host args => exact hnext (hs.take (.jobCommand (fun _ u => u.drawn_upholds) _ _) _ _) hi
  | fetchFrame host args => exact hnext (hs.take (.expecting (State.fetchFrame_upholds host) _ _) _ _) hi
  | flushFrames host args => exact hnext (hs.take (.expecting (State.flushFrames_upholds host) _ _) _ _) hi
  | setWindow host args =>
    refine hnext (hs.take (fun u => ?_) _ _) hi
    split
    · exact .refl u
    · split
      · exact u.setWindow_upholds ..
      · exact .refl u
  | clearWindow host args =>
    refine hnext (hs.take (.expecting (fun u => ?_) _ _) _ _) hi
    split
    · exact .refl u
    · exact .ite (u.setWindow_upholds ..) (.refl u)
  | acquireHold host args => exact hnext (hs.take (.groupCommand (State.acquireHold_upholds host _) _ _) _ _) hi
  | renewHold host args => exact hnext (hs.take (.groupCommand (State.renewHold_upholds host) _ _) _ _) hi
  | releaseHold host args => exact hnext (hs.take (.groupCommand (State.releaseHold_upholds host) _ _) _ _) hi
  | claimExc host args =>
    refine hnext (hs.take (.expecting (fun u => ?_) _ _) _ _) hi
    split
    · exact .refl u
    · exact State.claimExc_upholds host _ u
  | requestCal host args => exact hnext (hs.take (.expecting (State.requestCal_upholds host) _ _) _ _) hi
  | setCalInterval host args => exact hnext (hs.take (.expecting (State.setCalInterval_upholds host _) _ _) _ _) hi
  | readEvents host args => exact hnext (hs.take (.expecting (State.readEvents_upholds host _) _ _) _ _) hi
  | hostReset host args => exact hnext (hs.take (.expecting (State.hostReset_upholds host) _ _) _ _) hi
  | trigEdge host => exact hnext (hlive (s.risingEdge_upholds _)) hi
  | xtEdge n => exact hnext (hlive (s.risingEdge_upholds _)) hi
  | periodExpiry j => exact hnext (hlive (s.periodTrigger_upholds j)) hi
  | triggerPresented o => exact hnext (hlive (s.present_upholds o)) hi
  | stepComplete code => exact hnext (hlive (s.stepComplete_upholds code)) hi
  | calibrationComplete result => exact hnext (hlive (s.calComplete_upholds result)) hi
  | settleExpiry => exact hnext (hlive s.settle_upholds) hi
  | deadlineExpiry j => exact hnext (hlive (s.deadlineReached_upholds j)) hi
  | leaseExpiry g => exact hnext (hlive (s.leaseReached_upholds g)) hi
  | triggerLineFallingEdge l => exact hnext (hlive (.beside rfl rfl rfl rfl)) hi

theorem State.Outward.step {t : State} (ht : step s = .next t) : t.Outward := by
  have hchosen : s.afterChoice.Outward := (s.drawnFor_upholds _).outward hs
  unfold Machine.step at ht
  split at ht
  · rename_i rest _
    have popped : s.Upholds { s with pending := rest } := .beside rfl rfl rfl rfl
    exact (popped.outward hs).exec ht
  · split at ht
    · cases ht
      exact hs
    · exact hchosen.exec ht
    · cases ht
      exact (State.freeDecision_upholds _).outward hchosen
    · cases ht
      exact State.Upholds.outward (s := s.afterChoice) (.beside rfl rfl rfl rfl) hchosen

end Outward

/-- Settles O57: `State.Outward` is kept by every command, and so by every step. -/
theorem stepsKeepEventsAndExcitation : Obligations.StepsKeepEventsAndExcitation := by
  intro s t hevents hexc hports ht
  obtain ⟨hevents, hexc, hports⟩ := State.Outward.step ⟨hevents, hexc, hports⟩ ht
  exact ⟨hevents, hexc, hports⟩

end Sys2Proof.Machine

namespace Sys2Proof.Machine

/-! ## A job leaves its groups (R139, R141) -/

/-- Settles O38: what a leaving changes is `State.vacate_holdsActed`, its groups are `State.vacate_group` and its reports
`State.vacate_events`; the granted groups are those of `State.WaitedFor`. -/
theorem leavingGroupsGrantsHolds : Obligations.LeavingGroupsGrantsHolds := by
  intro s j
  refine ⟨fun hc => State.vacate_of_urgent hc, fun hc => ?_⟩
  intro granted expiry
  have hgranted (g : GroupId) : granted g ↔ s.WaitedFor j g := ⟨fun h => ⟨hc, h⟩, fun h => h.2⟩
  refine ⟨_, rfl, s.vacate_holdsActed j, fun g hn => ?_, fun g hg => ?_, fun h => ?_⟩
  · exact (s.vacate_group j g).2 fun hw => hn ((hgranted g).2 hw)
  · exact (s.vacate_group j g).1 ((hgranted g).1 hg)
  · obtain ⟨order, hnodup, hmem, hevents⟩ := s.vacate_events j h
    exact ⟨order, hnodup, fun g => by rw [hmem, hgranted], hevents⟩

end Sys2Proof.Machine

namespace Sys2Proof.Machine

/-! ## ACQUIRE_HOLD and RENEW_HOLD (R140, R143) -/

/-- A group command in hand, of its expected length, goes by the group that its first byte names. -/
theorem exec_of_groupCommand {h : HostId} {s : State} {i : Instr} {b : Byte} {rest : List Byte}
    {body : GroupId → State → Reply}
    (hexec : exec i s = .next (s.take h i (groupCommand (b :: rest).length (b :: rest) body))) (ho : s.Offered h i) :
    (4 ≤ b.toNat → exec i s = .next (s.respond h .badArgument [])) ∧
    (∀ g : GroupId, b.toNat = g.val → ∀ r : Reply, body g s = r →
      exec i s = .next (r.state.respond h r.status r.payload)) := by
  have harg : argByte (b :: rest) 0 = b.toNat := rfl
  rw [exec_of_offered (n := (b :: rest).length) hexec ho rfl, harg]
  refine ⟨fun hb => ?_, fun g hg r hr => ?_⟩
  · rw [index?_none hb]
    rfl
  · rw [index?_eq_some_iff.2 hg, ← hr]

/-- Settles O48: the group by `exec_of_groupCommand`, then the two branches of `State.renewHold`. -/
theorem renewHoldRestartsTheLease : Obligations.RenewHoldRestartsTheLease := by
  intro h b s ho
  obtain ⟨hrange, hgroup⟩ := exec_of_groupCommand (rest := []) (body := State.renewHold h) rfl ho
  refine ⟨hrange, fun g hg => ?_⟩
  intro r expiry
  refine ⟨fun hs hh => hgroup g hg _ (if_pos ⟨hs, hh⟩), fun hn => hgroup g hg (s.refuse .wrongState) (if_neg ?_)⟩
  rintro ⟨hs, hh⟩
  rcases hn with hn | hn | hn
  · exact absurd (hs.symm.trans hn) (by decide)
  · exact absurd (hs.symm.trans hn) (by decide)
  · exact hn hh

/-- Foreign occupants in the words of R139: occupants whose jobs other hosts own. -/
theorem State.foreignOccupants_eq (s : State) (g : GroupId) (h : HostId) : s.foreignOccupants g h =
    (allJobs.filter fun j => decide ((s.groups.at g).occupants.at j = true ∧ (s.job j).owner ≠ h)).length := by
  simp only [State.foreignOccupants, Bool.decide_and, Bool.decide_eq_true]

section TakeGroup
variable {h : HostId} {lease : Nat} {g : GroupId} {s : State}

/-- A lease of 0 is the first refusal of R140 after the group's range. -/
theorem State.acquireHold_of_no_lease : State.acquireHold h 0 g s = s.refuse .badArgument := by
  simp [State.acquireHold]

/-- A group that is not FREE is refused, to its own host as already taken and to another as held (R140). -/
theorem State.acquireHold_of_taken (hl : lease ≠ 0) (hs : (s.groups.at g).state ≠ .free) :
    State.acquireHold h lease g s = s.refuse (if (s.groups.at g).host = h then .wrongState else .heldByOther) := by
  unfold State.acquireHold
  by_cases hh : (s.groups.at g).host = h <;> simp [hl, hs, hh]

theorem State.acquireHold_of_free (hl : lease ≠ 0) (hs : (s.groups.at g).state = .free) :
    State.acquireHold h lease g s = s.takeGroup h g lease := by
  unfold State.acquireHold
  simp [hl, hs]

end TakeGroup

/-- Settles O47: the group by `exec_of_groupCommand`, the checks by the lemmas on `State.acquireHold`, and a FREE group by
the two branches of `State.takeGroup`. -/
theorem acquireHoldTakesAFreeGroup : Obligations.AcquireHoldTakesAFreeGroup := by
  intro h b lease s ho
  obtain ⟨hrange, hgroup⟩ :=
    exec_of_groupCommand (rest := [lease]) (body := State.acquireHold h lease.toNat) rfl ho
  refine ⟨hrange, fun g hg => ?_⟩
  intro r foreign expiry
  have hforeign : s.foreignOccupants g h = foreign := s.foreignOccupants_eq g h
  refine ⟨fun hl => ?_, fun hl => ?_⟩
  · subst hl
    exact hgroup g hg _ State.acquireHold_of_no_lease
  have hpositive : lease.toNat ≠ 0 := fun hz => hl (BitVec.eq_of_toNat_eq hz)
  refine ⟨fun hs hh => ?_, fun hs hh => ?_, fun hs hf => ?_, fun hs hf => ?_⟩
  · exact hgroup g hg (s.refuse .wrongState) (by rw [State.acquireHold_of_taken hpositive hs, if_pos hh])
  · exact hgroup g hg (s.refuse .heldByOther) (by rw [State.acquireHold_of_taken hpositive hs, if_neg hh])
  · have htaken : s.takeGroup h g lease.toNat =
        ⟨(s.holdNow g h lease.toNat).arrival, .ok, 0 :: bytesOf 4 expiry.toNat⟩ := if_pos (hforeign.trans hf)
    exact hgroup g hg _ ((State.acquireHold_of_free hpositive hs).trans htaken)
  · have htaken : s.takeGroup h g lease.toNat = ⟨(s.setGroup g { r with
        state := .pending, host := h, lease := lease.toNat, expiry := 0 }).arrival, .pending,
        [byteOf (s.foreignOccupants g h)]⟩ := if_neg (by rw [hforeign]; exact Nat.ne_of_gt hf)
    rw [hforeign] at htaken
    exact hgroup g hg _ ((State.acquireHold_of_free hpositive hs).trans htaken)

end Sys2Proof.Machine

namespace Sys2Proof.Machine

/-! ## The completion of the last step (R10, R13, R18, R111) -/

/-- The converter is released from a state whose engine is known. -/
theorem State.releaseConverter_of_engine {s : State} {e : Engine} (he : s.engine = e) :
    s.releaseConverter = { s with engine := e.released } := by
  subst he
  rfl

/-- A run that has been delivered holds nothing any more, ends counted, and leaves the converter (R13, R112). -/
theorem State.completeRun_of_fill {s : State} {j : JobId} {f : FrameId} (hf : (s.job j).fillFrame = some f) :
    s.completeRun j = State.freeDecision { (((s.runDelivered j f).vacate j).endRun j) with
      engine := s.engine.released } := by
  have hengine : (((s.runDelivered j f).vacate j).endRun j).engine = s.engine := by
    rw [State.endRun_engine, State.vacate_engine]
    rfl
  unfold State.completeRun
  rw [State.deliver_eq hf, State.releaseConverter_of_engine hengine]

/-- The last step leads to the end of the run (R10, R13). -/
theorem State.stepOfRun_of_last {s t : State} {p : StepInProgress} {f : FrameId} {n : Fin 16} {y : SeqStep}
    {code : BitVec 12} {stale : Bool} (hf : (s.job p.job).fillFrame = some f) (hn : (s.job p.job).nextStep = n.val)
    (hy : (s.seqOf p.job).steps[p.index]? = some y) (hlast : (s.seqOf p.job).steps.length = n.val + 1)
    (ht : (s.sampled p f n y.window code stale).judge p.job y.window p.index p.channel code = t) :
    s.stepOfRun p code stale =
      (t.setJob p.job { s.job p.job with nextStep := n.val + 1 }).completeRun p.job := by
  have hwindow : s.windowRef p.job p.index = y.window := by
    rw [State.windowRef, hy]
    rfl
  have hbeside : s.SameSchedule t := by
    rw [← ht]
    exact (s.setFrame_sameSchedule f _).trans (State.judge_sameSchedule ..)
  have hadvance : t.advance p.job = t.setJob p.job { s.job p.job with nextStep := n.val + 1 } := by
    rw [State.advance, hbeside.job, hn]
  have hjudged : (s.writeSample p.job p code stale (s.zoneFor (s.job p.job).owner y.window code)).judge p.job y.window
      p.index p.channel code = t := by
    rw [State.writeSample_of_fill hf hn]
    exact ht
  rw [State.stepOfRun_of_judged hwindow hjudged, if_pos, hadvance]
  rw [hadvance, State.seqOf, State.setJob_job_same, State.setJob_seqs, hbeside.seqs]
  exact hlast.symm

/-- Settles O40: the sample by `State.stepOfRun_of_last`, the delivery by `State.completeRun_of_fill`. A judged sample
leaves job table, frames and excitation alone (`State.judge_eq`), so the frame that is finished is the sampled one. -/
theorem lastStepCompletesTheRun : Obligations.LastStepCompletesTheRun := by
  intro s code p f n y j r hends hs hf hn hy hlast samples judged delivered
  have hdone : s.stepDone p code = (judged.setJob j { r with nextStep := n.val + 1 }).completeRun j := by
    rw [State.stepDone_of_running hs]
    exact State.stepOfRun_of_last (s := { s with engine := s.engine.counted }) hf hn hy hlast rfl
  have hfill : ((judged.setJob j { r with nextStep := n.val + 1 }).job j).fillFrame = some f := by
    rw [State.setJob_job_same]
    exact hf
  obtain ⟨windows, events, waiting, hjudged⟩ : ∃ windows events waiting, judged = { s with
      engine := s.engine.counted, frames := s.frames.put f { s.frames.at f with samples := samples }
      windows := windows, events := events, waiting := waiting } := ⟨_, _, _, State.judge_eq ..⟩
  have hdelivered : (judged.setJob j { r with nextStep := n.val + 1 }).runDelivered j f = delivered := by
    simp only [delivered, hjudged, State.runDelivered, State.setJob_job_same, State.setJob_jobs, State.setJob_frames,
      Table.put_put, Table.at_put_same]
    rfl
  have hengine : (judged.setJob j { r with nextStep := n.val + 1 }).engine = s.engine.counted := by
    rw [State.setJob_engine, hjudged]
  refine congrArg _ ((State.live_of_working _ hends.1).trans ?_)
  rw [hends.stepComplete, hdone, State.completeRun_of_fill hfill, hdelivered, hengine]

end Sys2Proof.Machine

namespace Sys2Proof.Machine

/-! ## The exit from STOPPING (R15 to R18, R71) -/

theorem State.stepDone_of_stopping {s : State} {p : StepInProgress} (hs : (s.job p.job).state = .stopping)
    (code : BitVec 12) :
    s.stepDone p code = State.stoppingExit { s with engine := s.engine.counted } p.job := by
  unfold State.stepDone
  rw [hs]
  rfl

/-- What the stop reason makes of a run that has given everything back, with the converter free (R18). -/
theorem State.stoppingExit_eq {s t u : State} {j : JobId} (ht : s.releaseRun j = t) (hu : t.exitStopping j = u)
    (he : u.engine = s.engine) :
    s.stoppingExit j = State.freeDecision { u with engine := s.engine.released } := by
  rw [State.stoppingExit, ht, hu, State.releaseConverter_of_engine he]

/-- An entry into PENDING writes the record that the trigger makes, and joins the queue (R6, R15). -/
theorem State.enterPending_eq (s : State) (j : JobId) (stamp : Time) (mark : Option EdgeMark) :
    s.enterPending j stamp mark = (s.setJob j ((s.job j).triggered stamp mark)).enqueue j := rfl

/-- An aborted job that comes to IDLE, or to ARMED with no latch, stays there (R18). -/
theorem State.exitAborted_of_no_latch {s : State} {j : JobId}
    (hn : (s.job j).disarmPending = true ∨ (s.job j).latch = none) : s.exitAborted j = s.endAborted j := by
  have hjob := s.endAborted_job j
  unfold State.exitAborted
  dsimp only
  rw [hjob, Job.aborted_eq]
  rcases hn with hd | hl
  · simp only [hd]
    split <;> rfl
  · simp only [hl]

/-- At ARMED an aborted job's latch is consumed into a new run (R15, R18). -/
theorem State.exitAborted_of_latch {s : State} {j : JobId} {stamp : Time} (hd : (s.job j).disarmPending = false)
    (hl : (s.job j).latch = some stamp) :
    s.exitAborted j = ((s.endAborted j).enterPending j stamp none).expireAtOnce j := by
  have hjob := s.endAborted_job j
  unfold State.exitAborted
  dsimp only
  rw [hjob, Job.aborted_eq]
  simp only [hl, hd]
  rfl

/-- Whatever the stop reason, the converter is left to its release. -/
theorem State.exitStopping_engine (s : State) (j : JobId) : (s.exitStopping j).engine = s.engine := by
  unfold State.exitStopping
  split
  · exact s.exitAborted_engine j
  · exact s.endRun_engine j
  · exact s.freeJob_engine j
  · rfl

/-- Settles O41: the run gives everything back (`State.releaseRun_of_some`), and the stop reason decides: an aborted job by
`State.exitAborted_of_no_latch` and `State.exitAborted_of_latch`, the others by the branches of `State.exitStopping`. -/
theorem stoppingExitFollowsTheReason : Obligations.StoppingExitFollowsTheReason := by
  intro s code p f j r engine hends hs hf t
  have hrelease : State.releaseRun { s with engine := s.engine.counted } j = t :=
    State.releaseRun_of_some (s := { s with engine := s.engine.counted }) hf
  have hjob : t.job j = { r with fillFrame := none, deadlineTimer := none } :=
    (State.vacate_job ..).trans (Table.at_put_same ..)
  have hreason : (t.job j).stopReason = r.stopReason := by rw [hjob]
  have hexec (u : State) (hu : t.exitStopping j = u) :
      exec (.stepComplete code) s = .next (State.freeDecision { u with engine := engine }) := by
    have hengine : u.engine = s.engine.counted := by
      rw [← hu, State.exitStopping_engine]
      exact State.vacate_engine ..
    refine congrArg _ ((State.live_of_working _ hends.1).trans ?_)
    rw [hends.stepComplete, State.stepDone_of_stopping hs, State.stoppingExit_eq hrelease hu hengine]
  refine ⟨fun ha => ?_, fun hl => hexec _ ?_, fun ht => hexec _ ?_⟩
  · intro aborted told
    have hended : t.endAborted j = told.setJob j aborted := State.endAborted_of_job hjob
    have hexit : t.exitStopping j = t.exitAborted j := by
      unfold State.exitStopping
      rw [hreason, ha]
    refine ⟨fun hn => hexec _ ?_, fun stamp hd hl hj => hexec _ ?_⟩
    · rw [hexit, State.exitAborted_of_no_latch (by rw [hjob]; exact hn), hended]
    · have hqueue : j ∉ told.queue := by
        change j ∉ t.queue
        rwa [State.vacate_queue]
      rw [hexit, State.exitAborted_of_latch (by rw [hjob]; exact hd) (by rw [hjob]; exact hl), hended,
        State.enterPending_eq, State.setJob_job_same, State.setJob_setJob, State.expireAtOnce_enqueue rfl rfl rfl hqueue]
  · unfold State.exitStopping
    rw [hreason, hl]
  · unfold State.exitStopping
    rw [hreason, ht]

end Sys2Proof.Machine

namespace Sys2Proof.Machine

/-! ## Deadline expiries (R16, R44 to R47) -/

/-- A timer that is stopped or before its moment does not expire (R44). -/
theorem State.deadlineReached_of_not_reached {s : State} {j : JobId}
    (hn : ∀ e, (s.job j).deadlineTimer = some e → 2 ^ 31 ≤ (s.timeBase - e).toNat) : s.deadlineReached j = s := by
  unfold State.deadlineReached
  cases he : (s.job j).deadlineTimer with
  | none => rfl
  | some e => exact if_neg fun h => absurd ((reached_iff _ _).1 h) (Nat.not_lt.2 (hn e he))

theorem State.deadlineReached_of_reached {s : State} {j : JobId} {e : Time} (he : (s.job j).deadlineTimer = some e)
    (hreached : (s.timeBase - e).toNat < 2 ^ 31) : s.deadlineReached j = s.lateBy j := by
  unfold State.deadlineReached
  rw [he]
  exact if_pos ((reached_iff _ _).2 hreached)

/-- Nothing happens to a job with no run in hand. -/
theorem State.lateBy_of_resting {s : State} {j : JobId} (hs : (s.job j).state = .free ∨ (s.job j).state = .idle ∨
    (s.job j).state = .armed ∨ (s.job j).state = .done) : s.lateBy j = s := by
  unfold State.lateBy
  rcases hs with hs | hs | hs | hs <;> rw [hs]

/-- An expiry as it is reported, with the timer still to be cleared (R44, R47). -/
def State.lateTold (s : State) (j : JobId) : State :=
  s.emit (s.job j).owner (some j) (s.job j).fillFrame
    (.deadlineMissed (s.job j).reportedRun (s.job j).late (s.job j).state)

theorem State.reportLate_setJob (s : State) (j : JobId) (r : Job) :
    (s.reportLate j).setJob j r = (s.lateTold j).setJob j r := State.setJob_setJob (s.lateTold j) j _ r

/-- The expiry reported and its timer cleared, given the blocked indication and the queue that go with the job's state. -/
def State.lateReported (s : State) (j : JobId) (blocked : Bool) (queue : List JobId) : State :=
  { s.lateTold j with
    jobs := s.jobs.put j { s.job j with deadlineTimer := none, blocked := blocked }, queue := queue }

theorem State.reportLate_eq_reported (s : State) (j : JobId) :
    s.reportLate j = s.lateReported j (s.job j).blocked s.queue := rfl

theorem State.reportLate_dequeue (s : State) (j : JobId) :
    (s.reportLate j).dequeue j = s.lateReported j false (s.queue.erase j) := by
  refine State.Bookkept.eq (s := s) ((s.reportLate_bookkept j).trans (State.dequeue_bookkept _ j))
    (s.bookkept_of_tables ..) ?_ rfl rfl
  rw [State.dequeue_jobs, State.reportLate_job_same]
  exact Table.put_put ..

section Late
variable {s : State} {j : JobId}

/-- KEEP marks the run late, in whichever state it waits or runs (R46). -/
theorem State.lateBy_of_keep (hl : (s.job j).late = .keep) (hs : (s.job j).state = .pending ∨
    (s.job j).state = .settling ∨ (s.job j).state = .running ∨ (s.job j).state = .preempted) :
    s.lateBy j = (s.lateTold j).setJob j { s.job j with deadlineTimer := none, deadlineMissed := true } := by
  have hmarked : (s.reportLate j).setJob j { (s.reportLate j).job j with deadlineMissed := true } =
      (s.lateTold j).setJob j { s.job j with deadlineTimer := none, deadlineMissed := true } := by
    rw [State.reportLate_setJob, State.reportLate_job_same]
  have hhand (drop : State → State) : s.lateInHand j drop =
      (s.lateTold j).setJob j { s.job j with deadlineTimer := none, deadlineMissed := true } := by
    unfold State.lateInHand
    rw [hl]
    exact hmarked
  unfold State.lateBy
  rcases hs with hs | hs | hs | hs
  · rw [hs]
    dsimp only
    rw [State.lateInQueue, if_neg (by simp [hl]), State.latePending_of_keep _ hl, hmarked]
  all_goals
    rw [hs]
    exact hhand _

theorem State.lateInHand_of_drop (hl : (s.job j).late = .drop) (drop : State → State) :
    s.lateInHand j drop = drop (s.reportLate j) := by
  unfold State.lateInHand
  rw [hl]

/-- A RUNNING job enters STOPPING with reason LATE (R16, R46). -/
theorem State.lateBy_of_running (hl : (s.job j).late = .drop) (hs : (s.job j).state = .running) :
    s.lateBy j = (s.lateTold j).setJob j
      { s.job j with deadlineTimer := none, state := .stopping, stopReason := some .late } := by
  unfold State.lateBy
  rw [hs]
  dsimp only
  rw [State.lateInHand_of_drop hl, State.reportLate_setJob, State.reportLate_job_same]

/-- A PENDING run leaves the queue, takes its number and ends counted (R16). -/
theorem State.dropPending_of_reported : (s.reportLate j).dropPending (fun u => u.expireAtOnce j) j =
    State.endRun { ((s.lateTold j).setJob j { s.job j with
      deadlineTimer := none, blocked := false, runNumber := (s.job j).runNumber + 1 }) with
      queue := s.queue.erase j } j := by
  have hjob : (s.lateReported j false (s.queue.erase j)).job j =
      { s.job j with deadlineTimer := none, blocked := false } := Table.at_put_same ..
  unfold State.dropPending
  rw [State.reportLate_dequeue]
  dsimp only
  rw [hjob]
  refine congrArg (State.endRun · j) ?_
  rw [State.setJob, State.lateReported, Table.put_put]
  rfl

/-- A run end now would put the job back in the queue exactly when it comes to ARMED with a latch (R14, R15). -/
theorem Job.reenters_iff (r : Job) : r.reenters = true ↔ r.endState = .armed ∧ r.latch ≠ none := by
  rw [Job.reenters, Job.stateAfterRun_eq, Bool.and_eq_true, beq_iff_eq, Option.isSome_iff_ne_none]

/-- A dropped run's end is an entry of R30 when it puts the job back in the queue. -/
theorem State.lateBy_of_pending (hl : (s.job j).late = .drop) (hs : (s.job j).state = .pending) {t : State}
    (ht : (s.reportLate j).dropPending (fun u => u.expireAtOnce j) j = t) : s.lateBy j =
      if (s.job j).endState = .armed ∧ (s.job j).latch ≠ none then t.entryArrival (s.job j).cls else t := by
  unfold State.lateBy
  rw [hs]
  dsimp only
  rw [State.lateInQueue, State.latePending_of_drop _ hl, ht]
  simp only [hl, true_and, Job.reenters_iff]

/-- In STOPPING the expiry uses the timer up and changes nothing else (log 23). -/
theorem State.lateBy_of_stopping (hs : (s.job j).state = .stopping) :
    s.lateBy j = s.setJob j { s.job j with deadlineTimer := none } := by
  unfold State.lateBy
  rw [hs]
  rfl

/-- What a late run has left when it has been reported and has given everything back, given the blocked indication and
the queue that go with its state (R16). -/
def State.lateLeft (s : State) (j : JobId) (f : FrameId) (blocked : Bool) (queue : List JobId) : State :=
  State.vacate { s.lateTold j with
    jobs := s.jobs.put j { s.job j with fillFrame := none, deadlineTimer := none, blocked := blocked }
    frames := s.frames.put f Frame.free, pool := s.pool ++ [f]
    inUse := s.inUse.put (s.job j).owner (s.inUse.get (s.job j).owner - 1), exc := s.excWithout j
    queue := queue } j

section Dropped
variable {f : FrameId} (hl : (s.job j).late = .drop) (hf : (s.job j).fillFrame = some f)
include hf

theorem State.lateReported_releaseRun (blocked : Bool) (queue : List JobId) :
    (s.lateReported j blocked queue).releaseRun j = s.lateLeft j f blocked queue := by
  have hjob : (s.lateReported j blocked queue).job j =
      { s.job j with deadlineTimer := none, blocked := blocked } := Table.at_put_same ..
  rw [State.releaseRun_of_some (f := f) (by rw [hjob]; exact hf), hjob]
  simp only [State.lateReported, Table.put_put]
  rfl

include hl

/-- From SETTLING the converter is free again, and the Dispatcher decides (R16, R46). -/
theorem State.lateBy_of_settling (hs : (s.job j).state = .settling) : s.lateBy j = State.freeDecision
    (State.endRun { s.lateLeft j f (s.job j).blocked s.queue with engine := s.engine.released } j) := by
  have hengine : (s.lateLeft j f (s.job j).blocked s.queue).engine = s.engine := State.vacate_engine ..
  unfold State.lateBy
  rw [hs]
  dsimp only
  rw [State.lateInHand_of_drop hl, State.dropSettling, State.reportLate_eq_reported,
    State.lateReported_releaseRun hf, State.releaseConverter_of_engine hengine]

/-- From PREEMPTED the job leaves the queue, and what it gave back reaches the Dispatcher (R16, R46). -/
theorem State.lateBy_of_preempted (hs : (s.job j).state = .preempted) :
    s.lateBy j = ((s.lateLeft j f false (s.queue.erase j)).endRun j).arrival := by
  unfold State.lateBy
  rw [hs]
  dsimp only
  rw [State.lateInHand_of_drop hl, State.dropPreempted, State.reportLate_dequeue,
    State.lateReported_releaseRun hf]

end Dropped

end Late

/-- Settles O42: an expiry that is reached goes by the job's state, one lemma on `State.lateBy` for each. -/
theorem deadlineExpiryByState : Obligations.DeadlineExpiryByState := by
  intro s j hr r i
  have hexec : exec i s = .next (s.deadlineReached j) := congrArg _ (State.live_of_working _ hr)
  rw [hexec]
  refine ⟨fun hnone => ?_, fun e he => ⟨fun hlate => ?_, fun hreached => ?_⟩⟩
  · rw [State.deadlineReached_of_not_reached fun e he => absurd (hnone.symm.trans he) (by simp)]
  · rw [State.deadlineReached_of_not_reached fun e' he' => by
      cases he.symm.trans he'
      exact hlate]
  rw [State.deadlineReached_of_reached he hreached]
  intro told
  have htold : s.lateTold j = told := rfl
  refine ⟨fun hs => ?_, fun hs => ?_, fun hl hs => ?_, fun hl => ⟨fun hs => ?_, fun hs => ?_, fun f hf => ?_⟩⟩
  · rw [State.lateBy_of_resting hs]
  · rw [State.lateBy_of_stopping hs]
  · rw [State.lateBy_of_keep hl hs, htold]
  · rw [State.lateBy_of_running hl hs, htold]
  · rw [State.lateBy_of_pending hl hs State.dropPending_of_reported, State.lateTold, Job.reportedRun]
  · intro t
    have hleft : t = s.lateLeft j f (if r.state = .preempted then false else r.blocked)
        (if r.state = .preempted then s.queue.erase j else s.queue) := rfl
    refine ⟨fun hs => ?_, fun hs => ?_⟩
    · have hp : r.state ≠ .preempted := by simp [hs]
      rw [State.lateBy_of_settling hl hf hs, hleft, if_neg hp, if_neg hp]
    · rw [State.lateBy_of_preempted hl hf hs, hleft, if_pos hs, if_pos hs]

end Sys2Proof.Machine

namespace Sys2Proof.Machine

/-! ## The arguments of SET_WINDOW (R152, Table 12-4) -/

theorem limitOf_eq_some_iff {v : Nat} {x : BitVec 12} : limitOf v = some x ↔ v = x.toNat := by
  unfold limitOf
  split
  · rename_i hv
    rw [Option.some.injEq, ← BitVec.toNat_inj, BitVec.toNat_ofNat, Nat.mod_eq_of_lt (by omega)]
  · simp only [reduceCtorEq, false_iff]
    omega

theorem actionOf_eq_some_iff {code job : Nat} {a : WindowAction} : actionOf code job = some a ↔
    code = 0 ∧ a = .notify ∨ code = 1 ∧ ∃ j : JobId, job = j.val ∧ a = .startJob j := by
  rcases code with _ | _ | code
  · simp [actionOf, eq_comm]
  · simp only [actionOf, Option.map_eq_some_iff, index?_eq_some_iff]
    simp [eq_comm]
  · simp [actionOf]

/-- What the checks of R152 that need no job record have found, and what they hand on. -/
theorem windowArgs_eq_some_iff {args : List Byte} {a : WindowArgs} : windowArgs args = some a ↔
    args.length = windowLength args ∧ argByte args 0 = a.window.val ∧ argPair args 1 = a.low.toNat ∧
    argPair args 3 = a.high.toNat ∧ actionOf (argByte args 5) (argByte args 6) = some a.action ∧ a.low ≤ a.high := by
  unfold windowArgs
  split
  · rename_i hlength
    simp [hlength]
  · rename_i hlength
    simp only [Option.bind_eq_bind, Option.bind_eq_some_iff, index?_eq_some_iff, limitOf_eq_some_iff]
    constructor
    · rintro ⟨window, hwindow, low, hlow, high, hhigh, action, haction, h⟩
      split at h
      · cases h
      · rename_i horder
        cases h
        exact ⟨not_not.1 hlength, hwindow, hlow, hhigh, haction, BitVec.not_lt.1 horder⟩
    · rintro ⟨-, hwindow, hlow, hhigh, haction, horder⟩
      exact ⟨_, hwindow, _, hlow, _, hhigh, _, haction, if_neg (BitVec.not_lt.2 horder)⟩

/-- Two bytes of the arguments as a number, most significant first (R186). -/
theorem numberAt_two {args : List Byte} {i : Nat} (h : i + 1 < args.length) : numberAt args i 2 = argPair args i := by
  have hbyte {k : Nat} (hk : k < args.length) : args.getD k 0 = args[k] := by simp [hk]
  rw [numberAt, List.drop_eq_getElem_cons (Nat.lt_of_succ_lt h), List.drop_eq_getElem_cons h, argPair, argByte, argByte,
    hbyte h, hbyte (Nat.lt_of_succ_lt h)]
  simp only [List.take_succ_cons, List.take_zero, List.foldl_cons, List.foldl_nil, Nat.zero_mul, Nat.zero_add]

/-! ## SET_WINDOW (R152) -/

theorem State.commandable_iff {s : State} {h : HostId} {j : JobId} :
    s.Commandable h j ↔ (s.job j).gone = false ∧ (s.job j).owner = h := by
  rw [State.Commandable, ← Bool.not_eq_true, Job.gone_iff, not_or, and_assoc]

theorem State.actionAllowed_iff {s : State} {h : HostId} {a : WindowAction} :
    s.actionAllowed h a = true ↔ ∀ j, a = .startJob j → s.Commandable h j := by
  cases a with
  | notify => simp [State.actionAllowed]
  | startJob j => simp [State.actionAllowed, State.commandable_iff]

/-- SET_WINDOW loads arguments that pass with an allowed action; with none of the kind it is refused. -/
theorem exec_setWindow {h : HostId} {s : State} {args : List Byte} (ho : s.Offered h (.setWindow h args)) :
    ((∀ a, windowArgs args = some a → ¬ s.actionAllowed h a.action = true) →
      exec (.setWindow h args) s = .next (s.respond h .badArgument [])) ∧
    (∀ a, windowArgs args = some a → s.actionAllowed h a.action = true →
      exec (.setWindow h args) s = .next ((s.loadWindow h a).respond h .ok [])) := by
  have hexec : exec (.setWindow h args) s = .next (s.take h (.setWindow h args) fun t =>
    match windowArgs args with
    | none => t.refuse .badArgument
    | some a => if t.actionAllowed h a.action then (t.loadWindow h a).answer [] else t.refuse .badArgument) := rfl
  rw [hexec, ho.take]
  refine ⟨fun hnone => ?_, fun a ha hallowed => ?_⟩
  · cases ha : windowArgs args with
    | none => rfl
    | some a =>
      dsimp only
      rw [if_neg (hnone a ha)]
      rfl
  · rw [ha]
    dsimp only
    rw [if_pos hallowed]
    rfl

/-- Settles O44: arguments that pass with an allowed action are good ones, and good ones pass with the window, limits and
action they name, both by `windowArgs_eq_some_iff` and `State.actionAllowed_iff`. -/
theorem setWindowLoadsTheWindow : Obligations.SetWindowLoadsTheWindow := by
  intro h s args ho v low high hlength ownJob good
  obtain ⟨hrefused, hloaded⟩ := exec_setWindow ho
  have hsix : 6 ≤ args.length := by
    rw [hlength]
    split <;> decide
  have hlow : low = argPair args 1 := numberAt_two (by omega)
  have hhigh : high = argPair args 3 := numberAt_two (by omega)
  refine ⟨fun hbad => hrefused fun a ha hallowed => hbad ?_, fun w action hgood hw haction => ?_⟩
  · obtain ⟨-, hwindow, hlowa, hhigha, haction, horder⟩ := windowArgs_eq_some_iff.1 ha
    have hle : a.low.toNat ≤ a.high.toNat := horder
    refine ⟨?_, by omega, by omega, ?_⟩
    · exact hwindow.trans_le (Nat.le_of_lt_succ a.window.isLt)
    · rcases actionOf_eq_some_iff.1 haction with ⟨hcode, -⟩ | ⟨hcode, j, hj, hstart⟩
      · exact .inl hcode
      · exact .inr ⟨hcode, j, hj, State.actionAllowed_iff.1 hallowed j hstart⟩
  · obtain ⟨-, horder, hmost, hcode⟩ := hgood
    have htoLow : (BitVec.ofNat 12 low).toNat = low := by
      rw [BitVec.toNat_ofNat, Nat.mod_eq_of_lt (by omega)]
    have htoHigh : (BitVec.ofNat 12 high).toNat = high := by
      rw [BitVec.toNat_ofNat, Nat.mod_eq_of_lt (by omega)]
    have hargs : windowArgs args = some ⟨w, BitVec.ofNat 12 low, BitVec.ofNat 12 high, action⟩ :=
      windowArgs_eq_some_iff.2 ⟨hlength, hw, hlow.symm.trans htoLow.symm, hhigh.symm.trans htoHigh.symm,
        actionOf_eq_some_iff.2 haction, by rwa [BitVec.le_def, htoLow, htoHigh]⟩
    refine hloaded _ hargs (State.actionAllowed_iff.2 fun j hj => ?_)
    dsimp only at hj
    rcases haction with ⟨-, hnotify⟩ | ⟨hone, k, hk, hstart⟩
    · exact absurd (hj.symm.trans hnotify) (by simp)
    · rcases hcode with hzero | ⟨-, i, hi, hown⟩
      · omega
      · cases hj.symm.trans hstart
        rwa [Fin.ext (hk.symm.trans hi)]

end Sys2Proof.Machine

namespace Sys2Proof.Machine

/-! ## CLEAR_WINDOW (R153) -/

@[simp] theorem State.setWindow_window_self (s : State) (h : HostId) (w : WindowId) :
    s.setWindow h w (s.window h w) = s := by
  rw [State.setWindow, State.window, Table.put_at, PerHost.put_get]

/-- CLEAR_WINDOW in hand goes by the window that its byte names. -/
theorem exec_clearWindow {h : HostId} {b : Byte} {s : State} (ho : s.Offered h (.clearWindow h [b])) :
    (4 ≤ b.toNat → exec (.clearWindow h [b]) s = .next (s.respond h .badArgument [])) ∧
    (∀ w : WindowId, b.toNat = w.val →
      exec (.clearWindow h [b]) s = .next ((s.clearWindow h w).respond h .ok [])) := by
  have harg : argByte [b] 0 = b.toNat := rfl
  rw [exec_of_offered (n := 1) rfl ho rfl, harg]
  refine ⟨fun hb => ?_, fun w hw => ?_⟩
  · rw [index?_none hb]
    rfl
  · rw [index?_eq_some_iff.2 hw]
    rfl

theorem State.clearWindow_of_enabled {s : State} {h : HostId} {w : WindowId} (he : (s.window h w).enabled = true) :
    s.clearWindow h w = s.setWindow h w Window.disabled := if_pos he

theorem State.clearWindow_of_disabled {s : State} {h : HostId} {w : WindowId} (hd : (s.window h w).enabled = false) :
    s.clearWindow h w = s := if_neg (by simp [hd])

/-- A sound disabled window keeps no more than its limits, which have no meaning (R151). -/
theorem State.WindowSound.eq_of_disabled {s : State} {h : HostId} {w : WindowId} (hs : s.WindowSound h w)
    (hd : (s.window h w).enabled = false) :
    s.window h w = ⟨false, (s.window h w).low, (s.window h w).high, .notify, .unknown⟩ := by
  obtain ⟨hzone, haction⟩ := hs.1 hd
  rw [← hd, ← hzone, ← haction]

/-- Settles O45: an enabled window becomes `Window.disabled`; a disabled one stays, and a sound one then is the record
that the statement sets. -/
theorem clearWindowDisables : Obligations.ClearWindowDisables := by
  intro h b s ho
  obtain ⟨hrange, hwindow⟩ := exec_clearWindow ho
  refine ⟨hrange, fun w hw => ?_⟩
  rw [hwindow w hw]
  refine ⟨fun hcase => ?_, fun hd => by rw [State.clearWindow_of_disabled hd]⟩
  cases he : (s.window h w).enabled with
  | true => exact ⟨0, 0, by rw [State.clearWindow_of_enabled he]; rfl⟩
  | false =>
    have hsound : s.WindowSound h w := hcase.resolve_left (by simp [he])
    refine ⟨(s.window h w).low, (s.window h w).high, ?_⟩
    rw [State.clearWindow_of_disabled he, ← hsound.eq_of_disabled he, State.setWindow_window_self]

end Sys2Proof.Machine


namespace Sys2Proof.Machine

/-! ## The fall of CS_N and the placing of a response (R170, R173, R174, R176, R177) -/

/-- Only a fall of CS_N on an IDLE port of a working part begins a transaction. -/
theorem exec_transactionBegin_of_not {s : State} {h : HostId}
    (hn : s.inReset = true ∨ (s.port h).transaction ≠ .idle) : exec (.transactionBegin h) s = .next s := by
  have hexec : exec (.transactionBegin h) s = .next (s.live fun t => t.beginTransaction h) := rfl
  rw [hexec]
  cases hr : s.inReset with
  | true => rw [State.live_of_reset _ hr]
  | false =>
    have ht : (s.port h).transaction ≠ .idle := hn.resolve_left (by simp [hr])
    rw [State.live_of_working _ hr, State.beginTransaction, if_neg ht]

theorem exec_transactionBegin_of_idle {s : State} {h : HostId} (hr : s.inReset = false)
    (ht : (s.port h).transaction = .idle) :
    exec (.transactionBegin h) s = .next (s.setPort h (s.port h).begin) := by
  have hexec : exec (.transactionBegin h) s = .next (s.live fun t => t.beginTransaction h) := rfl
  rw [hexec, State.live_of_working _ hr, State.beginTransaction, if_pos ht]

theorem Port.begin_of_ready {p : Port} {r : Response} (hready : p.readiness = .ready) (hslot : p.slot = some r) :
    p.begin = { p with
      transaction := .shifting, byteCount := 0, received := [], inBits := [], outBit := 0
      outgoing := .slot, image := r.image } := by
  unfold Port.begin
  rw [hready, hslot]

theorem Port.begin_of_waiting {p : Port} (hwaiting : p.readiness = .waiting) :
    p.begin = { p with
      transaction := .shifting, byteCount := 0, received := [], inBits := [], outBit := 0
      outgoing := .notReady, image := Response.image ⟨.notReady, p.tagInHand, []⟩ } := by
  unfold Port.begin
  rw [hwaiting]
  rfl

/-- Settles O4: a fall of CS_N that begins no transaction changes nothing, and one that does is `Port.begin`, by the
readiness of the slot. -/
theorem transactionBeginFixesTheImage : Obligations.TransactionBeginFixesTheImage := by
  intro s h
  refine ⟨exec_transactionBegin_of_not, fun hr ht => ⟨fun r hready hslot => ?_, fun hwaiting => ?_⟩⟩
  · rw [exec_transactionBegin_of_idle hr ht, Port.begin_of_ready hready hslot]
  · rw [exec_transactionBegin_of_idle hr ht, Port.begin_of_waiting hwaiting]

@[simp] theorem State.setPort_port_self (s : State) (h : HostId) : s.setPort h (s.port h) = s := by
  rw [State.setPort, State.port, PerHost.put_get]

/-- Settles O8, by what the port has prepared. -/
theorem responseReadyPlacesTheResponse : Obligations.ResponseReadyPlacesTheResponse := by
  intro s h hr
  have hexec : exec (.responseReady h) s = .next (s.setPort h (s.port h).place) :=
    congrArg _ (State.live_of_working _ hr)
  rw [hexec]
  refine ⟨fun r hp => ?_, fun hp => ?_⟩
  · rw [Port.place, hp]
  · rw [Port.place, hp, State.setPort_port_self]

/-- Settles O13: NOP in hand has its expected length 0, and its block answers without touching the state. -/
theorem nopIsAnsweredOk : Obligations.NopIsAnsweredOk := fun _ _ ho =>
  exec_of_offered (block := fun t => t.answer []) (n := 0) rfl ho rfl

end Sys2Proof.Machine

namespace Sys2Proof.Machine

/-! ## Frames: covered bytes, CRC and filler (R174, R186, Tables 12-1, 12-2) -/

section Seal
variable (filler : Byte) (covered : List Byte)

theorem sealFrame_length (hc : covered.length < 64) : (sealFrame filler covered).length = 64 := by
  simp only [sealFrame, frameBytes, List.length_append, List.length_singleton, List.length_replicate]
  omega

theorem sealFrame_take : (sealFrame filler covered).take covered.length = covered := by
  simp [sealFrame]

/-- The CRC follows the covered bytes. -/
theorem sealFrame_getD_crc : (sealFrame filler covered).getD covered.length 0 = crc8 covered := by
  simp [sealFrame]

theorem sealFrame_drop :
    (sealFrame filler covered).drop (covered.length + 1) = List.replicate (63 - covered.length) filler := by
  have hfiller : 64 - covered.length - 1 = 63 - covered.length := by omega
  simp [sealFrame, frameBytes, Nat.sub_add_eq, hfiller]

variable {covered}

/-- The bytes among the covered ones. -/
theorem sealFrame_getD {i : Nat} (hi : i < covered.length) :
    (sealFrame filler covered).getD i 0 = covered.getD i 0 := by
  simp [sealFrame, List.getElem?_append_left hi]

end Seal

end Sys2Proof.Machine

namespace Sys2Proof.Machine

/-- The frame of a response: its covered bytes, sealed with filler 0xFF (Table 12-2). -/
theorem Response.image_frame {r : Response} (hp : r.payload.length ≤ 60) :
    r.image.length = 64 ∧
    r.image.take (3 + r.payload.length) =
      [r.status.code, r.tag, BitVec.ofNat 8 r.payload.length] ++ r.payload ∧
    r.image.getD (3 + r.payload.length) 0 = crc8 (r.image.take (3 + r.payload.length)) ∧
    r.image.drop (4 + r.payload.length) = List.replicate (60 - r.payload.length) 0xFF := by
  let covered := [r.status.code, r.tag, byteOf r.payload.length] ++ r.payload
  have himage : r.image = sealFrame 0xFF covered := rfl
  have hlength : covered.length = 3 + r.payload.length := by
    simp only [covered, List.length_append, List.length_cons, List.length_nil]
  have htake : r.image.take (3 + r.payload.length) = covered := by rw [himage, ← hlength, sealFrame_take]
  refine ⟨himage ▸ sealFrame_length _ _ (by omega), htake, ?_, ?_⟩
  · rw [htake, himage, ← hlength, sealFrame_getD_crc]
  · have hdrop := sealFrame_drop 0xFF covered
    rw [hlength] at hdrop
    rw [himage, show 4 + r.payload.length = 3 + r.payload.length + 1 by omega, hdrop]
    congr 1
    omega

/-! ## The clocks of a transaction (R170, R171, R186) -/

/-- A clock whose level completes no byte. -/
theorem Port.clock_of_partial {p : Port} (ht : p.transaction = .shifting) {b : Bool}
    (hl : (p.inBits ++ [b]).length < 8) :
    (p.sckRise b).sckFall = { p with inBits := p.inBits ++ [b], outBit := p.outBit + 1 } := by
  have hrise : p.sckRise b = { p with inBits := p.inBits ++ [b] } := by
    unfold Port.sckRise
    rw [ht]
    exact if_pos hl
  rw [hrise]
  unfold Port.sckFall
  rw [ht]

/-- A clock whose level completes a byte. -/
theorem Port.clock_of_whole {p : Port} (ht : p.transaction = .shifting) {b : Bool}
    (hl : 8 ≤ (p.inBits ++ [b]).length) :
    (p.sckRise b).sckFall = { p.byteIn (byteOfBits (p.inBits ++ [b])) with outBit := p.outBit + 1 } := by
  have hrise : p.sckRise b = p.byteIn (byteOfBits (p.inBits ++ [b])) := by
    unfold Port.sckRise
    rw [ht]
    exact if_neg (Nat.not_lt.2 hl)
  rw [hrise]
  unfold Port.sckFall Port.byteIn
  rw [ht]

/-- The clocks of a transaction move SDO on and change neither the image nor the transaction. -/
theorem Port.clocked_outgoing {p : Port} (ht : p.transaction = .shifting) (sdi : List Bool) :
    (p.clocked sdi).transaction = .shifting ∧ (p.clocked sdi).image = p.image ∧
    (p.clocked sdi).outBit = p.outBit + sdi.length := by
  induction sdi generalizing p with
  | nil => exact ⟨ht, rfl, rfl⟩
  | cons b sdi ih =>
    have hclock : ((p.sckRise b).sckFall).transaction = .shifting ∧ ((p.sckRise b).sckFall).image = p.image ∧
        ((p.sckRise b).sckFall).outBit = p.outBit + 1 := by
      rcases Nat.lt_or_ge (p.inBits ++ [b]).length 8 with hl | hl
      · rw [Port.clock_of_partial ht hl]
        exact ⟨ht, rfl, rfl⟩
      · rw [Port.clock_of_whole ht hl]
        exact ⟨ht, rfl, rfl⟩
    obtain ⟨hshifting, himage, hbit⟩ := hclock
    obtain ⟨ihs, ihi, iho⟩ := ih hshifting
    rw [Port.clocked_cons]
    exact ⟨ihs, ihi.trans himage, by rw [iho, hbit, List.length_cons]; omega⟩

theorem Port.sdo_of_shifting {p : Port} (ht : p.transaction = .shifting) :
    p.sdo = some ((p.image.getD (p.outBit / 8) 0xFF).getMsbD (p.outBit % 8)) := by
  unfold Port.sdo
  rw [ht]

theorem Port.sdo_of_not_shifting {p : Port} (ht : p.transaction ≠ .shifting) : p.sdo = none := by
  unfold Port.sdo
  cases hp : p.transaction with
  | idle | lockedOut => rfl
  | shifting => exact absurd hp ht

/-- Bit `k` of a byte in the order of shifting is bit `7 - k` of its value. -/
theorem getMsbD_of_lt (b : Byte) {k : Nat} (hk : k < 8) : b.getMsbD k = b.getLsbD (7 - k) := by
  simp [BitVec.getMsbD, hk]

/-- Settles O5: the frame by `Response.image_frame`; SDO stands at the bit that the number of clocks gives
(`Port.clocked_outgoing`), in the image or, past it, in the filler. -/
theorem responseImageIsTheResponseFrame : Obligations.ResponseImageIsTheResponseFrame := by
  refine ⟨fun r hp => r.image_frame hp, fun p sdi => ⟨fun ht hzero hlength => ?_, fun ht => ?_⟩,
    fun s h => ⟨fun hr => ?_, fun hr => ?_⟩⟩
  · obtain ⟨hshifting, himage, hbit⟩ := Port.clocked_outgoing ht sdi
    have hin : sdi.length % 8 < 8 := Nat.mod_lt _ (by decide)
    rw [Port.sdo_of_shifting hshifting, himage, hbit, hzero, Nat.zero_add, getMsbD_of_lt _ hin]
    refine ⟨fun hn => ?_, fun hn => ?_⟩
    · have hbyte : sdi.length / 8 < p.image.length := by omega
      rw [List.getD_eq_getElem _ _ hbyte, List.getD_eq_getElem _ _ hbyte]
    · have hfiller : ∀ k < 8, (0xFF : Byte).getLsbD (7 - k) = true := by decide
      rw [List.getD_eq_default _ _ (by omega), hfiller _ hin]
  · exact ⟨Port.clocked_of_not_shifting ht sdi, Port.sdo_of_not_shifting ht⟩
  · exact if_pos hr
  · exact if_neg (by simp [hr])

/-! ## The bytes of a transaction (R170, R171) -/

/-- The byte of the last eight levels, built up level by level, is the one that R170 describes. -/
theorem byteOfBits_eq_sampledByte {sdi : List Bool} {i : Nat} (hl : sdi.length = 8 * i + 8) :
    byteOfBits (sdi.drop (8 * i)) = sampledByte sdi i := by
  have hget (k : Nat) : sdi.getD (8 * i + k) false = (sdi.drop (8 * i)).getD k false := by
    simp [List.getElem?_drop]
  have height : (sdi.drop (8 * i)).length = 8 := by
    rw [List.length_drop]
    omega
  have hweight (b : Bool) (n : Nat) : (if b then n else 0) = n * bit b := by cases b <;> simp [bit]
  simp only [sampledByte, hget]
  match sdi.drop (8 * i), height with
  | [a, b, c, d, e, f, g, x], _ =>
    refine congrArg (BitVec.ofNat 8) ?_
    simp [hweight, List.range_succ]
    omega

theorem sampledBytes_length (sdi : List Bool) : (sampledBytes sdi).length = sdi.length / 8 := by
  simp [sampledBytes]

/-- Levels of SDI after a whole byte do not change it. -/
theorem sampledByte_append (sdi : List Bool) (b : Bool) {i : Nat} (hi : i < sdi.length / 8) :
    sampledByte (sdi ++ [b]) i = sampledByte sdi i := by
  unfold sampledByte
  congr 2
  refine List.map_congr_left fun k hk => ?_
  rw [List.getD_append _ _ _ _ (by have := List.mem_range.1 hk; omega)]

/-- A level that completes no byte leaves the whole bytes as they are. -/
theorem sampledBytes_of_partial {sdi : List Bool} (b : Bool) (hl : sdi.length % 8 < 7) :
    sampledBytes (sdi ++ [b]) = sampledBytes sdi := by
  have hcount : (sdi ++ [b]).length / 8 = sdi.length / 8 := by
    rw [List.length_append, List.length_singleton]
    omega
  rw [sampledBytes, hcount]
  exact List.map_congr_left fun i hi => sampledByte_append sdi b (List.mem_range.1 hi)

/-- A level that completes a byte appends it. -/
theorem sampledBytes_of_whole {sdi : List Bool} (b : Bool) (hl : sdi.length % 8 = 7) :
    sampledBytes (sdi ++ [b]) = sampledBytes sdi ++ [sampledByte (sdi ++ [b]) (sdi.length / 8)] := by
  have hcount : (sdi ++ [b]).length / 8 = sdi.length / 8 + 1 := by
    rw [List.length_append, List.length_singleton]
    omega
  rw [sampledBytes, hcount, List.range_succ, List.map_append, List.map_singleton]
  exact congrArg (· ++ _) (List.map_congr_left fun i hi => sampledByte_append sdi b (List.mem_range.1 hi))

/-- A port after these clocks of a transaction that has just begun. -/
def Port.shiftedIn (p : Port) (sdi : List Bool) : Port :=
  { p with
    byteCount := min 64 (sdi.length / 8), received := (sampledBytes sdi).take 64
    inBits := sdi.drop (8 * (sdi.length / 8)), outBit := sdi.length }

theorem Port.shiftedIn_byteCount_lt_iff (p : Port) (sdi : List Bool) :
    (p.shiftedIn sdi).byteCount < frameBytes ↔ sdi.length / 8 < 64 := by
  have hcount : (p.shiftedIn sdi).byteCount = min 64 (sdi.length / 8) := rfl
  rw [hcount, frameBytes]
  omega

/-- A further byte is kept only while fewer than 64 are (R171). -/
theorem Port.shiftedIn_received_append (p : Port) (sdi : List Bool) (b : Byte) :
    (if (p.shiftedIn sdi).byteCount < frameBytes then (p.shiftedIn sdi).received ++ [b]
      else (p.shiftedIn sdi).received) = (sampledBytes sdi ++ [b]).take 64 := by
  have hlength := sampledBytes_length sdi
  simp only [Port.shiftedIn_byteCount_lt_iff]
  split
  · rw [Port.shiftedIn, List.take_of_length_le (by omega), List.take_of_length_le]
    rw [List.length_append, List.length_singleton]
    omega
  · rw [Port.shiftedIn, List.take_append_of_le_length (by omega)]

/-- One more clock, after the clocks before it: it lengthens the unfinished byte or completes it. -/
theorem Port.shiftedIn_clock {p : Port} (ht : p.transaction = .shifting) (sdi : List Bool) (b : Bool) :
    ((p.shiftedIn sdi).sckRise b).sckFall = p.shiftedIn (sdi ++ [b]) := by
  have hlength : (sdi ++ [b]).length = sdi.length + 1 := by simp
  have hbits : (p.shiftedIn sdi).inBits ++ [b] = (sdi ++ [b]).drop (8 * (sdi.length / 8)) := by
    rw [List.drop_append_of_le_length (by omega)]
    rfl
  have hcount : ((sdi ++ [b]).drop (8 * (sdi.length / 8))).length = sdi.length % 8 + 1 := by
    rw [List.length_drop, hlength]
    omega
  have hshifting : (p.shiftedIn sdi).transaction = .shifting := ht
  rcases Nat.lt_or_ge (sdi.length % 8) 7 with hl | hl
  · have hbytes : (sdi.length + 1) / 8 = sdi.length / 8 := by omega
    rw [Port.clock_of_partial hshifting (by rw [hbits, hcount]; omega), hbits]
    simp only [Port.shiftedIn, hlength, hbytes, sampledBytes_of_partial b hl]
  · have hbytes : (sdi.length + 1) / 8 = sdi.length / 8 + 1 := by omega
    have hwhole : byteOfBits ((sdi ++ [b]).drop (8 * (sdi.length / 8))) = sampledByte (sdi ++ [b]) (sdi.length / 8) :=
      byteOfBits_eq_sampledByte (by omega)
    have hnext := sampledBytes_of_whole (sdi := sdi) b (by omega)
    have hempty : (sdi ++ [b]).drop (8 * (sdi.length / 8 + 1)) = [] := List.drop_eq_nil_of_le (by omega)
    rw [Port.clock_of_whole hshifting (by rw [hbits, hcount]; omega), hbits, hwhole]
    rw [Port.byteIn, p.shiftedIn_received_append]
    simp only [Port.shiftedIn, frameBytes, hlength, hbytes, hempty, hnext]
    congr 1
    omega

/-- What the clocks of a transaction shift in, from its beginning on (R170, R171). -/
theorem Port.clocked_of_fresh {p : Port} (ht : p.transaction = .shifting) (hf : p.Fresh) (sdi : List Bool) :
    p.clocked sdi = p.shiftedIn sdi := by
  induction sdi using List.reverseRecOn with
  | nil =>
    obtain ⟨hcount, hreceived, hbits, hout⟩ := hf
    cases p
    simp_all [Port.shiftedIn, sampledBytes]
  | append_singleton sdi b ih =>
    rw [Port.clocked_append, ih]
    exact Port.shiftedIn_clock ht sdi b

end Sys2Proof.Machine

namespace Sys2Proof.Machine

/-! ## The rise of CS_N (R171 to R173, R175 to R177) -/

theorem exec_transactionEnd {s : State} (hr : s.inReset = false) (h : HostId) (sdi : List Bool) :
    exec (.transactionEnd h sdi) s = .next (s.setPort h ((s.port h).finish h s.timeBase sdi)) :=
  congrArg _ (State.live_of_working _ hr)

/-- A transaction of too few whole bytes, or one that shifted out NOT_READY, leaves only what it shifted in (R175,
R176). -/
theorem Port.finish_of_discarded {p : Port} {sdi : List Bool} (ht : p.transaction = .shifting) (hf : p.Fresh)
    (hd : sdi.length / 8 < 64 ∨ p.outgoing = .notReady) (h : HostId) (now : Time) :
    p.finish h now sdi = { p.shiftedIn sdi with transaction := .idle } := by
  have hout : (p.shiftedIn sdi).outgoing = p.outgoing := rfl
  unfold Port.finish
  rw [ht, Port.clocked_of_fresh ht hf]
  dsimp only
  split
  · rfl
  · rename_i hcount
    have hready : p.outgoing = .notReady := hd.resolve_left fun hn => hcount ((p.shiftedIn_byteCount_lt_iff sdi).2 hn)
    rw [hout, hready]

/-- A complete transaction that shifted out the slot is examined (R172). -/
theorem Port.finish_of_complete {p : Port} {sdi : List Bool} (ht : p.transaction = .shifting) (hf : p.Fresh)
    (hn : 64 ≤ sdi.length / 8) (hout : p.outgoing = .slot) (h : HostId) (now : Time) :
    p.finish h now sdi = Port.examine { p.shiftedIn sdi with transaction := .idle } h now := by
  have hcount : ¬ (p.shiftedIn sdi).byteCount < frameBytes := by
    rwa [p.shiftedIn_byteCount_lt_iff, Nat.not_lt]
  have hslot : (p.shiftedIn sdi).outgoing = .slot := hout
  unfold Port.finish
  rw [ht, Port.clocked_of_fresh ht hf]
  dsimp only
  rw [if_neg hcount, hslot]

/-- Settles O6: discarded transactions by `Port.finish_of_discarded`; the rise of CS_N on a port that is not SHIFTING
ends none. -/
theorem faultyTransactionsAreDiscarded : Obligations.FaultyTransactionsAreDiscarded := by
  intro s h sdi hr n p
  rw [exec_transactionEnd hr]
  refine ⟨fun ht hf hn => ?_, fun ht hf hn hout => ?_, fun ht => ?_, fun ht => ?_⟩
  · have hbytes : (sampledBytes sdi).take 64 = sampledBytes sdi :=
      List.take_of_length_le (by rw [sampledBytes_length]; exact hn.le)
    rw [Port.finish_of_discarded ht hf (.inl hn), Port.shiftedIn, hbytes, Nat.min_eq_right hn.le]
  · rw [Port.finish_of_discarded ht hf (.inr hout), Port.shiftedIn, Nat.min_eq_left hn]
  · rw [Port.finish, ht]
  · rw [Port.finish, ht, State.setPort_port_self]

/-! ## The examination of a frame (R172) -/

/-- A port whose complete frame has been examined: the response is delivered, and a response is prepared or a command is
put in hand (R172, R173). -/
def Port.examined (p : Port) (now : Time) (prepared : Option Response) (inHand : Option Instr) : Port :=
  { p with
    slot := none, readiness := .waiting, tagInHand := p.received.getD 1 0, endedAt := now
    prepared := prepared, inHand := inHand }

/-- What the port does with each outcome of the checks. -/
theorem Port.examine_of_check (p : Port) (h : HostId) (now : Time) :
    (checkFrame h p.received = .badLength →
      p.examine h now = p.examined now (some ⟨.badLength, p.received.getD 1 0, []⟩) none) ∧
    (checkFrame h p.received = .badFrame →
      p.examine h now = p.examined now (some ⟨.badFrame, p.received.getD 1 0, []⟩) none) ∧
    (checkFrame h p.received = .unknownCommand →
      p.examine h now = p.examined now (some ⟨.unknownCommand, p.received.getD 1 0, []⟩) none) ∧
    (∀ i, checkFrame h p.received = .command i → p.examine h now = p.examined now none (some i)) := by
  unfold Port.examine
  refine ⟨fun hc => ?_, fun hc => ?_, fun hc => ?_, fun i hc => ?_⟩
  all_goals
    rw [hc]
    rfl

/-- The checks of R172 in their order: length, CRC, code. -/
theorem checkFrame_cases (h : HostId) (frame : List Byte) :
    let n := (frame.getD 2 0).toNat
    (60 < n → checkFrame h frame = .badLength) ∧
    (n ≤ 60 → crc8 (frame.take (3 + n)) ≠ frame.getD (3 + n) 0 → checkFrame h frame = .badFrame) ∧
    (n ≤ 60 → crc8 (frame.take (3 + n)) = frame.getD (3 + n) 0 →
      (commandOf h (frame.getD 0 0) ((frame.drop 3).take n) = none → checkFrame h frame = .unknownCommand) ∧
      (∀ i, commandOf h (frame.getD 0 0) ((frame.drop 3).take n) = some i → checkFrame h frame = .command i)) := by
  dsimp only
  refine ⟨fun hn => if_pos hn, fun hn hcrc => ?_, fun hn hcrc => ⟨fun hcode => ?_, fun i hcode => ?_⟩⟩
  all_goals
    unfold checkFrame
    dsimp only
    rw [if_neg (Nat.not_lt.2 hn)]
  · rw [if_pos hcrc]
  · rw [if_neg (not_not_intro hcrc), hcode]
  · rw [if_neg (not_not_intro hcrc), hcode]

/-- Settles O7: a complete transaction is examined, with the outcome that the checks of its frame give. -/
theorem completeTransactionIsExamined : Obligations.CompleteTransactionIsExamined := by
  intro s h sdi hr ht hf hout hn frame n tag i after
  have hcount : 64 ≤ sdi.length / 8 := by omega
  have hexec : exec i s = .next (s.setPort h
      (Port.examine { (s.port h).shiftedIn sdi with transaction := .idle } h s.timeBase)) := by
    rw [exec_transactionEnd hr, Port.finish_of_complete ht hf hcount hout]
  have hafter (prepared : Option Response) (inHand : Option Instr) : after prepared inHand = s.setPort h
      (Port.examined { (s.port h).shiftedIn sdi with transaction := .idle } s.timeBase prepared inHand) := by
    rw [Port.examined, Port.shiftedIn, Nat.min_eq_left hcount]
  obtain ⟨hlength, hframe, hcommand⟩ := checkFrame_cases h frame
  obtain ⟨hbadLength, hbadFrame, hunknown, htaken⟩ :=
    Port.examine_of_check { (s.port h).shiftedIn sdi with transaction := .idle } h s.timeBase
  refine ⟨fun hlong => ?_, fun hshort hcrc => ?_, fun hshort hcrc => ⟨fun hnone => ?_, fun c hsome => ?_⟩⟩
  · rw [hexec, hafter, hbadLength (hlength hlong)]
    rfl
  · rw [hexec, hafter, hbadFrame (hframe hshort hcrc)]
    rfl
  · rw [hexec, hafter, hunknown ((hcommand hshort hcrc).1 hnone)]
    rfl
  · rw [hexec, hafter, htaken c ((hcommand hshort hcrc).2 c hsome)]

end Sys2Proof.Machine

namespace Sys2Proof.Machine

/-! ## Frames and commands (R172, R186, Tables 12-1, 12-4) -/

/-- The code and caller of a command lead back to it (Table 12-4). -/
theorem commandOf_code {h : HostId} {i : Instr} {code : Byte} (hh : i.caller = some h) (hc : i.code = some code) :
    commandOf h code i.argBytes = some i := by
  cases i with
  | resetNAssert | resetNRelease | transactionBegin | transactionEnd | responseReady | trigEdge | xtEdge
  | periodExpiry | triggerPresented | stepComplete | calibrationComplete | settleExpiry | deadlineExpiry
  | leaseExpiry | triggerLineFallingEdge => cases hh
  | nop k args => exact (Laws.FrameCode.nop k args).2 h code hh hc
  | status k args => exact (Laws.FrameCode.status k args).2 h code hh hc
  | defineSeq k args => exact (Laws.FrameCode.defineSeq k args).2 h code hh hc
  | deleteSeq k args => exact (Laws.FrameCode.deleteSeq k args).2 h code hh hc
  | readSeq k args => exact (Laws.FrameCode.readSeq k args).2 h code hh hc
  | createJob k args => exact (Laws.FrameCode.createJob k args).2 h code hh hc
  | armJob k args => exact (Laws.FrameCode.armJob k args).2 h code hh hc
  | disarmJob k args => exact (Laws.FrameCode.disarmJob k args).2 h code hh hc
  | startJob k args => exact (Laws.FrameCode.startJob k args).2 h code hh hc
  | abortJob k args => exact (Laws.FrameCode.abortJob k args).2 h code hh hc
  | deleteJob k args => exact (Laws.FrameCode.deleteJob k args).2 h code hh hc
  | jobStatus k args => exact (Laws.FrameCode.jobStatus k args).2 h code hh hc
  | fetchFrame k args => exact (Laws.FrameCode.fetchFrame k args).2 h code hh hc
  | flushFrames k args => exact (Laws.FrameCode.flushFrames k args).2 h code hh hc
  | setWindow k args => exact (Laws.FrameCode.setWindow k args).2 h code hh hc
  | clearWindow k args => exact (Laws.FrameCode.clearWindow k args).2 h code hh hc
  | acquireHold k args => exact (Laws.FrameCode.acquireHold k args).2 h code hh hc
  | renewHold k args => exact (Laws.FrameCode.renewHold k args).2 h code hh hc
  | releaseHold k args => exact (Laws.FrameCode.releaseHold k args).2 h code hh hc
  | claimExc k args => exact (Laws.FrameCode.claimExc k args).2 h code hh hc
  | requestCal k args => exact (Laws.FrameCode.requestCal k args).2 h code hh hc
  | setCalInterval k args => exact (Laws.FrameCode.setCalInterval k args).2 h code hh hc
  | readEvents k args => exact (Laws.FrameCode.readEvents k args).2 h code hh hc
  | hostReset k args => exact (Laws.FrameCode.hostReset k args).2 h code hh hc

/-- A code that names a command is that command's, and the argument bytes are its own (Table 12-4). -/
theorem commandOf_eq_some {h : HostId} {code : Byte} {args : List Byte} {i : Instr}
    (hi : commandOf h code args = some i) : i.code = some code ∧ i.argBytes = args := by
  unfold commandOf at hi
  split at hi
  case h_25 => cases hi
  all_goals
    cases hi
    exact ⟨congrArg some (BitVec.eq_of_toNat_eq (Eq.symm ‹_›)), rfl⟩

/-- What a frame that is accepted as a command has passed. -/
theorem checkFrame_eq_command {h : HostId} {frame : List Byte} {i : Instr} (hi : checkFrame h frame = .command i) :
    let n := (frame.getD 2 0).toNat
    n ≤ 60 ∧ crc8 (frame.take (3 + n)) = frame.getD (3 + n) 0 ∧
    commandOf h (frame.getD 0 0) ((frame.drop 3).take n) = some i := by
  intro n
  obtain ⟨hlength, hcrc, hcode⟩ := checkFrame_cases h frame
  have hn : n ≤ 60 := Nat.not_lt.1 fun hlt => by simp [hlength hlt] at hi
  have hc : crc8 (frame.take (3 + n)) = frame.getD (3 + n) 0 := by
    by_contra hne
    simp [hcrc hn hne] at hi
  obtain ⟨hnone, hsome⟩ := hcode hn hc
  refine ⟨hn, hc, ?_⟩
  cases ho : commandOf h (frame.getD 0 0) ((frame.drop 3).take n) with
  | none => simp [hnone ho] at hi
  | some j => exact congrArg some (by simpa [hsome j ho] using hi)

/-- A frame of at most 60 argument bytes is read back as the command it carries. -/
theorem checkFrame_sealFrame {h : HostId} {i : Instr} {code : Byte} (tag filler : Byte) (hw : i.wf = true)
    (hh : i.caller = some h) (hc : i.code = some code) :
    checkFrame h (sealFrame filler ([code, tag, BitVec.ofNat 8 i.argBytes.length] ++ i.argBytes)) = .command i := by
  have hn : i.argBytes.length ≤ 60 := of_decide_eq_true hw
  generalize hcovered : [code, tag, BitVec.ofNat 8 i.argBytes.length] ++ i.argBytes = covered
  have hlength : covered.length = 3 + i.argBytes.length := by
    rw [← hcovered, List.length_append]
    rfl
  have hbyte {k : Nat} (hk : k < 3) : (sealFrame filler covered).getD k 0 = covered.getD k 0 :=
    sealFrame_getD filler (by omega)
  have hfield : ((sealFrame filler covered).getD 2 0).toNat = i.argBytes.length := by
    rw [hbyte (by decide), ← hcovered]
    exact Nat.mod_eq_of_lt (by omega)
  have hargs : ((sealFrame filler covered).drop 3).take i.argBytes.length = i.argBytes := by
    rw [List.take_drop, ← hlength, sealFrame_take, ← hcovered]
    rfl
  obtain ⟨-, -, hcommand⟩ := checkFrame_cases h (sealFrame filler covered)
  rw [hfield, hargs, ← hlength, sealFrame_take, sealFrame_getD_crc, hbyte (by decide)] at hcommand
  refine (hcommand hn rfl).2 i ?_
  rw [← hcovered]
  exact commandOf_code hh hc

theorem take_three {l : List Byte} (hl : 3 ≤ l.length) : l.take 3 = [l.getD 0 0, l.getD 1 0, l.getD 2 0] := by
  match l, hl with
  | _ :: _ :: _ :: _, _ => rfl

/-- Settles O9: the frame of a command is read back by `checkFrame_sealFrame`; a frame that is accepted has passed the
checks (`checkFrame_eq_command`), and so begins with the command's own bytes and their CRC. -/
theorem commandFramesRoundTrip : Obligations.CommandFramesRoundTrip := by
  refine ⟨fun h i tag filler frame hw hh hframe => ?_, fun h i frame hlength hi => ?_⟩
  · obtain ⟨code, hc, rfl⟩ := Option.map_eq_some_iff.1 hframe
    have hn : i.argBytes.length ≤ 60 := of_decide_eq_true hw
    refine ⟨sealFrame_length _ _ ?_, ?_, checkFrame_sealFrame tag filler hw hh hc⟩
    · simp only [List.length_append, List.length_cons, List.length_nil]
      omega
    · exact sealFrame_getD filler (by simp)
  · obtain ⟨hn, hcrc, hcommand⟩ := checkFrame_eq_command hi
    obtain ⟨hcode, hargs⟩ := commandOf_eq_some hcommand
    have hcount : i.argBytes.length = (frame.getD 2 0).toNat := by
      rw [hargs, List.length_take, List.length_drop]
      omega
    refine ⟨checkFrame_caller hi, decide_eq_true (hcount ▸ hn), _, hcode, ?_⟩
    intro covered
    have hcovered : frame.take (3 + i.argBytes.length) = covered := by
      have hfield : frame.getD 2 0 = BitVec.ofNat 8 i.argBytes.length := (byteOf_of_toNat hcount.symm).symm
      have hrest : (frame.drop 3).take i.argBytes.length = i.argBytes := by rw [hcount, ← hargs]
      rw [List.take_add, take_three (by omega), hrest, hfield]
    have hlast : frame.getD (3 + i.argBytes.length) 0 = crc8 covered := by
      rw [← hcovered, hcount, hcrc]
    have hnext : 3 + i.argBytes.length < frame.length := by omega
    rw [← hlast, ← hcovered, List.getD_eq_getElem _ _ hnext, List.take_append_getElem hnext, Nat.add_right_comm]

end Sys2Proof.Machine

namespace Sys2Proof.Machine

/-! ## Records of one width within a payload (R186) -/

theorem numberAt_append_left {p q : List Byte} {i n : Nat} (h : i + n ≤ p.length) :
    numberAt (p ++ q) i n = numberAt p i n := by
  rw [numberAt, numberAt, List.drop_append_of_le_length (by omega),
    List.take_append_of_le_length (by rw [List.length_drop]; omega)]

/-- The numbers of record `k` of a payload are those of its image. -/
theorem numberAt_record {α : Type} {image : α → List Byte} {width : Nat} (hw : ∀ x, (image x).length = width)
    (l : List α) {k : Nat} (hk : k < l.length) (rest : List Byte) {i n : Nat} (hin : i + n ≤ width) :
    numberAt ((l.map image).flatten ++ rest) (width * k + i) n = numberAt (image l[k]) i n := by
  have hlength := length_flatten_map hw l
  have hle : width * k ≤ width * l.length := Nat.mul_le_mul_left _ hk.le
  rw [numberAt_add, List.drop_append_of_le_length (by omega), drop_flatten_map hw, List.drop_eq_getElem_cons hk,
    List.map_cons, List.flatten_cons, List.append_assoc, numberAt_append_left (by rw [hw]; exact hin)]

theorem Table.toList_eq_map_at {α : Type} {n : Nat} (t : Table α n) : t.toList = (List.finRange n).map t.at :=
  List.ext_getElem (by simp) fun i hi _ => by simp [Table.at]

/-- Records counted in a table are indices counted in order. -/
theorem length_filter_toList {α : Type} {n : Nat} (t : Table α n) (p : α → Bool) :
    (t.toList.filter p).length = ((List.finRange n).filter fun i => p (t.at i)).length := by
  rw [Table.toList_eq_map_at, List.filter_map, List.length_map]
  rfl

/-! ## The STATUS payload (R182, Table 12-8) -/

theorem ConverterState.code_lt (st : ConverterState) : st.code < 8 := by cases st <;> decide

theorem GroupState.code_lt (st : GroupState) : st.code < 4 := by cases st <;> decide

theorem LastZone.code_lt (z : LastZone) : z.code < 4 := by cases z <;> decide

theorem State.freeJobs_eq (s : State) : s.freeJobs = (allJobs.filter fun j => (s.job j).state == .free).length := by
  rw [State.freeJobs, length_filter_toList, allJobs_eq_finRange]
  rfl

theorem State.freeSeqs_eq (s : State) : s.freeSeqs = (allSeqs.filter fun k => !(s.seqs.at k).defined).length := by
  rw [State.freeSeqs, length_filter_toList]
  rfl

theorem State.groupDetail_length (s : State) (h : HostId) (g : GroupId) : (s.groupDetail h g).length = 4 := by
  unfold State.groupDetail
  dsimp only
  split
  · rfl
  · split <;> rfl

theorem Window.statusBytes_length (w : Window) : w.statusBytes.length = 2 := by
  unfold Window.statusBytes
  split <;> rfl

/-- The numbers of the 27 bytes before the groups. -/
theorem State.statusImage_header (s : State) (h : HostId) :
    let p := s.statusImage h
    numberAt p 0 1 = hostCode h + 4 * s.engine.state.code + 32 * bit s.engine.stale +
      64 * bit (decide (s.engine.effective ≤ s.engine.counter)) +
      128 * bit (decide (s.engine.effective + 64 ≤ s.engine.counter)) ∧
    numberAt p 1 4 = s.timeBase.toNat ∧
    numberAt p 5 1 = (allJobs.filter fun j => (s.job j).state == .free).length ∧
    numberAt p 6 2 = s.freeSteps % 65536 ∧
    numberAt p 8 1 = (allSeqs.filter fun k => !(s.seqs.at k).defined).length ∧
    numberAt p 9 3 = s.engine.counter % 16777216 ∧
    numberAt p 12 1 = s.engine.failures % 4 + 4 * bit (s.engine.requesters.get h) +
      8 * bit (s.engine.served.get h) ∧
    numberAt p 13 2 = s.engine.effective % 65536 ∧
    numberAt p 15 2 = (s.engine.requests.get h).getD 0 % 65536 ∧
    numberAt p 17 1 = (s.exc.standing.get h).rank + 4 * s.exc.output.rank + 16 * s.exc.settled.rank +
      64 * s.exc.highestTransient.rank ∧
    numberAt p 18 1 = s.exc.target.elim 0 Level.rank ∧
    (s.exc.target.isSome = true → numberAt p 19 4 = s.exc.expiry.toNat) ∧
    numberAt p 23 1 = s.allowance.get h % 256 ∧ numberAt p 24 1 = s.inUse.get h % 256 ∧
    numberAt p 25 1 = (s.delivery.get h).length % 256 ∧ numberAt p 26 1 = s.pool.length % 256 := by
  have hhost := hostCode_lt h
  have hstate := s.engine.state.code_lt
  have hstale := bit_lt s.engine.stale
  have hdue := bit_lt (decide (s.engine.effective ≤ s.engine.counter))
  have hoverdue := bit_lt (decide (s.engine.effective + 64 ≤ s.engine.counter))
  have hrequester := bit_lt (s.engine.requesters.get h)
  have hserved := bit_lt (s.engine.served.get h)
  have hstanding := (s.exc.standing.get h).rank_lt
  have houtput := s.exc.output.rank_lt
  have hsettled := s.exc.settled.rank_lt
  have htransient := s.exc.highestTransient.rank_lt
  have hjobs : s.freeJobs ≤ 24 := s.freeJobs_eq ▸ List.length_filter_le ..
  have hseqs : s.freeSeqs ≤ 32 := s.freeSeqs_eq ▸ List.length_filter_le ..
  have htarget : s.exc.target.elim 0 Level.rank < 4 := by
    cases s.exc.target with
    | none => decide
    | some l => exact l.rank_lt
  rw [← s.freeJobs_eq, ← s.freeSeqs_eq]
  simp only [State.statusImage, Engine.due, Engine.overdue, bytesOf, numberAt, packBits, bitsByte, List.cons_append,
    List.nil_append, List.append_assoc, List.drop_succ_cons, List.drop_zero, List.take_succ_cons, List.take_zero,
    List.foldl_cons, List.foldl_nil, toNat_byteOf, Nat.reducePow, Nat.zero_mul, Nat.zero_add, Nat.div_one,
    pair_of_bytes, triple_of_bytes, quad_of_bytes]
  refine ⟨by omega, trivial, by omega, trivial, by omega, trivial, by omega, trivial, trivial, by omega, by omega,
    fun ht => by rw [if_pos ht], trivial, trivial, trivial, trivial⟩

/-- The bytes of the groups' holds, of their details, of the windows, and the last two, one after the other from byte 27
on. -/
theorem State.statusImage_drop (s : State) (h : HostId) :
    let p := s.statusImage h
    let holds := (allGroups.map fun g => [(s.groups.at g).statusByte (s.openField (2 + g.val)).toNat]).flatten
    let details := (allGroups.map (s.groupDetail h)).flatten
    let windows := ((s.windows.get h).toList.map Window.statusBytes).flatten
    let last := [byteOf (s.events.get h).queue.length, byteOf (s.events.get h).loss]
    p.drop 27 = holds ++ (details ++ (windows ++ last)) ∧ p.drop 31 = details ++ (windows ++ last) ∧
    p.drop 47 = windows ++ last ∧ p.drop 55 = last := by
  intro p holds details windows last
  have hdetails : details.length = 16 := length_flatten_map (s.groupDetail_length h) allGroups
  have hwindows : windows.length = 8 := by
    rw [length_flatten_map Window.statusBytes_length, Vector.length_toList]
  have h27 : p.drop 27 = holds ++ (details ++ (windows ++ last)) := by
    rw [← List.append_assoc, ← List.append_assoc]
    rfl
  have h31 : p.drop 31 = details ++ (windows ++ last) := by
    rw [← List.drop_drop (i := 4) (j := 27), h27]
    rfl
  have h47 : p.drop 47 = windows ++ last := by
    rw [← List.drop_drop (i := 16) (j := 31), h31, List.drop_left' hdetails]
  refine ⟨h27, h31, h47, ?_⟩
  rw [← List.drop_drop (i := 8) (j := 47), h47, List.drop_left' hwindows]

theorem State.statusImage_length (s : State) (h : HostId) : (s.statusImage h).length = 57 := by
  have hlast := congrArg List.length (s.statusImage_drop h).2.2.2
  rw [List.length_drop, List.length_cons, List.length_cons, List.length_nil] at hlast
  omega

/-- The byte of a group: its state, and below it the host, which is open for a FREE group (log 14). -/
theorem Group.statusByte_toNat (r : Group) (openHost : Nat) : ((r.statusByte openHost).toNat % 4 = r.state.code) ∧
    (r.state ≠ .free → (r.statusByte openHost).toNat = r.state.code + 4 * hostCode r.host) := by
  have hstate := r.state.code_lt
  have hhost := hostCode_lt r.host
  simp only [Group.statusByte, bitsByte, packBits, List.foldl_cons, List.foldl_nil, toNat_byteOf, Nat.reducePow,
    Nat.zero_mul, Nat.zero_add]
  refine ⟨by omega, fun hs => ?_⟩
  rw [if_neg hs]
  omega

/-- Four bytes carry a number below 2^32. -/
theorem numberAt_bytesOf_four {n : Nat} (hn : n < 2 ^ 32) : numberAt (bytesOf 4 n) 0 4 = n := by
  simp only [bytesOf, numberAt, List.drop_zero, List.take_succ_cons, List.take_zero, List.foldl_cons, List.foldl_nil,
    toNat_byteOf, Nat.reducePow, Nat.zero_mul, Nat.zero_add, Nat.div_one]
  omega

theorem State.foreignOccupants_le (s : State) (g : GroupId) (h : HostId) : s.foreignOccupants g h ≤ 24 :=
  List.length_filter_le ..

/-- The detail of a group: the caller's lease expiry, or its foreign occupants, or 0 (R148). -/
theorem State.groupDetail_number (s : State) (h : HostId) (g : GroupId) : numberAt (s.groupDetail h g) 0 4 =
    if (s.groups.at g).host = h ∧ (s.groups.at g).state = .held then (s.groups.at g).expiry.toNat
    else if (s.groups.at g).host = h ∧ (s.groups.at g).state = .pending then s.foreignOccupants g h
    else 0 := by
  have hforeign := s.foreignOccupants_le g h
  unfold State.groupDetail
  dsimp only
  split
  · exact numberAt_bytesOf_four (s.groups.at g).expiry.isLt
  · split
    · exact numberAt_bytesOf_four (by omega)
    · rfl

/-- The two bytes of a window: its marks and last zone, then the job it starts or 0xFF. -/
theorem Window.statusBytes_numbers (w : Window) :
    numberAt w.statusBytes 0 1 = bit w.enabled + 2 * bit (decide (w.action ≠ .notify)) + 4 * w.lastZone.code ∧
    (∀ j : JobId, w.action = .startJob j → numberAt w.statusBytes 1 1 = j.val) ∧
    (w.action = .notify → numberAt w.statusBytes 1 1 = 255) := by
  have hzone := w.lastZone.code_lt
  have henabled := bit_lt w.enabled
  unfold Window.statusBytes
  cases w.action with
  | notify =>
    simp only [numberAt, bitsByte, packBits, List.drop_zero, List.drop_succ_cons, List.take_succ_cons, List.take_zero,
      List.foldl_cons, List.foldl_nil, toNat_byteOf, Nat.reducePow, Nat.zero_mul, Nat.zero_add]
    have hnotify : bit (decide (WindowAction.notify ≠ .notify)) = 0 := rfl
    exact ⟨by omega, fun _ hj => (nomatch hj), fun _ => rfl⟩
  | startJob k =>
    simp only [numberAt, bitsByte, packBits, List.drop_zero, List.drop_succ_cons, List.take_succ_cons, List.take_zero,
      List.foldl_cons, List.foldl_nil, toNat_byteOf, Nat.reducePow, Nat.zero_mul, Nat.zero_add]
    have hstart : bit (decide (WindowAction.startJob k ≠ .notify)) = 1 := rfl
    refine ⟨by omega, fun j hj => ?_, fun hj => nomatch hj⟩
    cases hj
    omega

/-- The bytes of a group in the payload. -/
theorem State.statusImage_group (s : State) (h : HostId) (g : GroupId) :
    let p := s.statusImage h
    numberAt p (27 + g.val) 1 = ((s.groups.at g).statusByte (s.openField (2 + g.val)).toNat).toNat ∧
    numberAt p (31 + 4 * g.val) 4 = numberAt (s.groupDetail h g) 0 4 := by
  intro p
  obtain ⟨hholds, hdetails, -, -⟩ := s.statusImage_drop h
  have hg : g.val < allGroups.length := g.isLt
  have hat : allGroups[g.val] = g := by
    revert g
    decide
  have hbyte (k : GroupId) : [(s.groups.at k).statusByte (s.openField (2 + k.val)).toNat].length = 1 := rfl
  constructor
  · rw [show 27 + g.val = 27 + (1 * g.val + 0) by omega, numberAt_add, hholds,
      numberAt_record hbyte _ hg _ (by decide), hat]
    exact Nat.zero_add _
  · rw [show 31 + 4 * g.val = 31 + (4 * g.val + 0) by omega, numberAt_add, hdetails,
      numberAt_record (s.groupDetail_length h) _ hg _ (by decide), hat]

/-- The bytes of a window in the payload. -/
theorem State.statusImage_window (s : State) (h : HostId) (w : WindowId) :
    let p := s.statusImage h
    numberAt p (47 + 2 * w.val) 1 = numberAt (s.window h w).statusBytes 0 1 ∧
    numberAt p (48 + 2 * w.val) 1 = numberAt (s.window h w).statusBytes 1 1 := by
  intro p
  obtain ⟨-, -, hwindows, -⟩ := s.statusImage_drop h
  have hw : w.val < (s.windows.get h).toList.length := by simp
  have hat : (s.windows.get h).toList[w.val] = s.window h w := Vector.getElem_toList ..
  constructor
  · rw [show 47 + 2 * w.val = 47 + (2 * w.val + 0) by omega, numberAt_add, hwindows,
      numberAt_record Window.statusBytes_length _ hw _ (by decide), hat]
  · rw [show 48 + 2 * w.val = 47 + (2 * w.val + 1) by omega, numberAt_add, hwindows,
      numberAt_record Window.statusBytes_length _ hw _ (by decide), hat]

/-- The last two bytes: the caller's event queue. -/
theorem State.statusImage_last (s : State) (h : HostId) :
    let p := s.statusImage h
    numberAt p 55 1 = (s.events.get h).queue.length % 256 ∧ numberAt p 56 1 = (s.events.get h).loss % 256 := by
  intro p
  obtain ⟨-, -, -, hlast⟩ := s.statusImage_drop h
  rw [numberAt_add p 55 0, numberAt_add p 55 1, hlast]
  simp [numberAt]

/-- Settles O14: STATUS answers with `State.statusImage`, whose numbers are read off part by part. -/
theorem statusReportsOneMoment : Obligations.StatusReportsOneMoment := by
  intro h s ho
  obtain ⟨hconverter, htime, hjobs, hsteps, hseqs, hcounter, hcal, hinterval, hrequest, hlevels, htarget, hexpiry,
    hallowance, hinUse, hdelivery, hpool⟩ := s.statusImage_header h
  obtain ⟨hevents, hloss⟩ := s.statusImage_last h
  refine ⟨s.statusImage h, ?_, s.statusImage_length h, hconverter, htime, hjobs, hsteps, hseqs, hcounter, hcal,
    hinterval, hrequest, hlevels, htarget, hexpiry, hallowance, hinUse, hdelivery, hpool, fun g => ?_, fun w => ?_,
    hevents, hloss⟩
  · exact exec_of_offered (block := fun t => t.drawn.answer (t.statusImage h)) (n := 0) rfl ho rfl
  · obtain ⟨hhold, hdetail⟩ := s.statusImage_group h g
    obtain ⟨hstate, hhost⟩ := (s.groups.at g).statusByte_toNat (s.openField (2 + g.val)).toNat
    rw [hhold, hdetail]
    exact ⟨hstate, hhost, s.groupDetail_number h g⟩
  · obtain ⟨hmarks, haction⟩ := s.statusImage_window h w
    rw [hmarks, haction]
    exact (s.window h w).statusBytes_numbers

end Sys2Proof.Machine

namespace Sys2Proof.Machine

/-! ## What a block may answer (R173, R178)

A command is carried out, with OK or PENDING, or its reply is a bare status and the state is the one before it. -/

/-- A reply to a command that found this state: a payload that a response frame can carry, and no effect unless the
command was carried out. The bound needs sound sequences, since READ_SEQ's payload grows with the steps of its
record. -/
structure Reply.Fits (r : Reply) (s : State) : Prop where
  short : s.SequencesSound → r.payload.length ≤ 60
  effect : r.status = .ok ∨ r.status = .pending ∨ r = s.refuse r.status

theorem Reply.Fits.refused {s : State} {st : Status} : (s.refuse st).Fits s :=
  ⟨fun _ => Nat.zero_le _, .inr (.inr rfl)⟩

theorem Reply.Fits.answered {s t : State} {payload : List Byte} (h : payload.length ≤ 60) : (t.answer payload).Fits s :=
  ⟨fun _ => h, .inl rfl⟩

theorem Reply.Fits.ite {s : State} {c : Prop} [Decidable c] {r q : Reply} (hr : c → r.Fits s) (hq : ¬ c → q.Fits s) :
    (if c then r else q).Fits s := by
  split
  · exact hr ‹_›
  · exact hq ‹_›

theorem Reply.Fits.expecting {s : State} {block : State → Reply} (hb : (block s).Fits s) (n : Nat) (args : List Byte) :
    (Machine.expecting n args block s).Fits s := .ite (fun _ => hb) fun _ => .refused

theorem Reply.Fits.jobCommand {s : State} {body : JobId → State → Reply} (hb : ∀ j, (body j s).Fits s) (h : HostId)
    (args : List Byte) : (Machine.jobCommand h args body s).Fits s := by
  refine .expecting ?_ 1 args
  split
  · exact .refused
  · exact hb _

theorem Reply.Fits.groupCommand {s : State} {body : GroupId → State → Reply} (hb : ∀ g, (body g s).Fits s) (n : Nat)
    (args : List Byte) : (Machine.groupCommand n args body s).Fits s := by
  refine .expecting ?_ n args
  split
  · exact .refused
  · exact hb _

theorem Reply.Fits.seqCommand {s : State} {body : SeqId → State → Reply}
    (hb : ∀ k, (s.seqs.at k).defined = true → (body k s).Fits s) (args : List Byte) :
    (Machine.seqCommand args body s).Fits s := by
  refine .expecting ?_ 1 args
  split
  · exact .refused
  · exact .ite (hb _) fun _ => .refused

section Fits
variable (s : State) (h : HostId)

/-! ### Sequences (R99, R101, R102) -/

theorem State.defineAt_fits (a : SeqArgs) (k : SeqId) : (s.defineAt h a k).Fits s :=
  .ite (fun _ => .refused) fun _ => .answered (by simp)

theorem State.defineSeq_fits (a : SeqArgs) : (s.defineSeq h a).Fits s := by
  unfold State.defineSeq
  split
  · split
    · exact .refused
    · exact s.defineAt_fits h a _
  · exact .ite (fun _ => s.defineAt_fits h a _) fun _ => .ite (fun _ => .refused) fun _ =>
      .ite (fun _ => .refused) fun _ => s.defineAt_fits h a _

theorem State.deleteSeq_fits (k : SeqId) : (State.deleteSeq h k s).Fits s :=
  .ite (fun _ => .refused) fun _ => .ite (fun _ => .refused) fun _ => .answered (Nat.zero_le _)

/-- A sound record has at most 16 steps, of two bytes each (R93). -/
theorem State.SequencesSound.image_length_le {s : State} (hs : s.SequencesSound) {k : SeqId}
    (hd : (s.seqs.at k).defined = true) : ((s.seqs.at k).image k).length ≤ 60 := by
  obtain ⟨-, -, hcount, -⟩ := hs.1 k
  have himage : ((s.seqs.at k).image k).length = 6 + ((s.seqs.at k).steps.map SeqStep.image).flatten.length := by
    rw [Seq.image, List.length_append]
    rfl
  have hlength := length_flatten_map (image := SeqStep.image) (width := 2) (fun _ => rfl) (s.seqs.at k).steps
  have hmost := (hcount hd).2
  omega

theorem State.readSeq_fits {k : SeqId} (hd : (s.seqs.at k).defined = true) : (State.readSeq h k s).Fits s :=
  .ite (fun _ => ⟨fun hs => hs.image_length_le hd, .inl rfl⟩) fun _ => .refused

/-! ### Jobs (R3, R5, R17, R19, R20, R21, R82) -/

theorem State.createJob_fits (a : JobArgs) : (s.createJob h a).Fits s := by
  refine .ite (fun _ => .refused) fun _ => .ite (fun _ => .refused) fun _ => ?_
  split
  · exact .refused
  · exact .answered (by simp)

variable (j : JobId)

theorem State.armJob_fits : (State.armJob j s).Fits s := by
  unfold State.armJob
  cases (s.job j).state
  case idle | done => exact .answered (Nat.zero_le _)
  all_goals exact .refused

theorem State.disarmJob_fits : (State.disarmJob j s).Fits s := by
  unfold State.disarmJob
  dsimp only
  cases (s.job j).state
  case free | idle => exact .refused
  all_goals exact .answered (Nat.zero_le _)

theorem TriggerOutcome.payload_length_le (o : TriggerOutcome) : o.payload.length ≤ 1 := by cases o <;> decide

theorem State.startJob_fits : (State.startJob j s).Fits s := by
  have hpayload := (s.job j).onTrigger.payload_length_le
  unfold State.startJob
  cases (s.job j).state
  case free | idle | done => exact .refused
  all_goals exact .answered (by omega)

theorem State.abortJob_fits : (State.abortJob j s).Fits s := by
  unfold State.abortJob
  dsimp only
  cases (s.job j).state
  case free | idle | armed | done => exact .refused
  all_goals exact .answered (Nat.zero_le _)

theorem State.deleteJob_fits : (State.deleteJob j s).Fits s := by
  unfold State.deleteJob
  cases (s.job j).state
  case idle | done => exact .answered (Nat.zero_le _)
  all_goals exact .refused

theorem Job.image_length (r : Job) (openLatch : Time) : (r.image j openLatch).length = 26 := rfl

theorem State.jobStatus_fits : (State.jobStatus j s).Fits s := .answered (by rw [Job.image_length]; decide)

/-! ### Frames (R67, R68) -/

/-- A frame carries at most the 16 samples that it has slots for. -/
theorem Frame.image_length_le (r : Frame) (f : FrameId) : (r.image f).length ≤ 60 := by
  have hsamples : (r.samples.toList.take r.sampleCount).length ≤ 16 := by simp
  have himage : (r.image f).length =
      ((r.samples.toList.take r.sampleCount).map Sample.image).flatten.length + 12 := rfl
  rw [himage, length_flatten_map Sample.image_length]
  omega

theorem State.fetchFrame_fits : (State.fetchFrame h s).Fits s := by
  unfold State.fetchFrame
  split
  · exact .refused
  · exact .answered (Frame.image_length_le ..)

theorem State.flushFrames_fits : (State.flushFrames h s).Fits s := by
  unfold State.flushFrames
  split <;> exact .answered (by simp)

/-! ### Holds (R140, R143, R144) -/

theorem State.takeGroup_fits (g : GroupId) (lease : Nat) : (s.takeGroup h g lease).Fits s :=
  .ite (fun _ => ⟨fun _ => (by decide : 5 ≤ 60), .inl rfl⟩) fun _ => ⟨fun _ => (by decide : 1 ≤ 60), .inr (.inl rfl)⟩

theorem State.acquireHold_fits (lease : Nat) (g : GroupId) : (State.acquireHold h lease g s).Fits s :=
  .ite (fun _ => .refused) fun _ => .ite (fun _ => .refused) fun _ => .ite (fun _ => .refused) fun _ =>
    s.takeGroup_fits h g lease

theorem State.renewHold_fits (g : GroupId) : (State.renewHold h g s).Fits s :=
  .ite (fun _ => .answered (by decide : 4 ≤ 60)) fun _ => .refused

theorem State.releaseHold_fits (g : GroupId) : (State.releaseHold h g s).Fits s :=
  .ite (fun _ => .answered (Nat.zero_le _)) fun _ => .refused

/-! ### Claims and calibration (R116, R118, R127) -/

theorem State.claimExc_fits (l : Level) : (State.claimExc h l s).Fits s :=
  .ite (fun _ => .answered (by decide : 3 ≤ 60)) fun _ => .answered (by decide : 3 ≤ 60)

theorem State.requestCal_fits : (State.requestCal h s).Fits s :=
  .ite (fun _ => .answered (Nat.zero_le _)) fun _ => .answered (Nat.zero_le _)

theorem State.setCalInterval_fits (n : Nat) : (State.setCalInterval h n s).Fits s :=
  .ite (fun _ => .refused) fun _ => .answered (by decide : 2 ≤ 60)

/-! ### Events (R164, R188) -/

/-- Whatever its kind, an event record is eight bytes (R188). -/
theorem Event.image_length (e : Event) : e.image.length = 8 := by
  unfold Event.image
  split <;> rfl

theorem eventsImage_length (read : List Event) (left loss : Nat) :
    (eventsImage read left loss).length = 2 + 8 * read.length := by
  rw [eventsImage, List.length_append, length_flatten_map Event.image_length]
  rfl

theorem State.readEvents_fits (n : Nat) : (State.readEvents h n s).Fits s := by
  refine .ite (fun _ => .refused) fun hn => .ite (fun _ => .refused) fun _ => ⟨fun _ => ?_, .inl rfl⟩
  have hread := List.length_take_le n (s.events.get h).queue
  dsimp only
  rw [eventsImage_length]
  omega

end Fits

/-! ## The 24 commands (R173, R178, R180) -/

/-- What holds of the block that takes a command of a host: it is the command's meaning, it leaves the ports as they
are, its replies fit, and it refuses an argument length other than the expected one. -/
structure TakenBy (i : Instr) (h : HostId) (block : State → Reply) : Prop where
  taken : ∀ s, exec i s = .next (s.take h i block)
  upholds : UpholdsAll block
  fits : ∀ s, (block s).Fits s
  length : i.argBytes.length ≠ expectedLength i → ∀ s, block s = s.refuse .badArgument

theorem seqArgs_of_wrong_length {args : List Byte} (h : args.length ≠ 4 + 2 * argByte args 3) : seqArgs args = none :=
  if_pos (.inr h)

theorem windowLength_eq (args : List Byte) : windowLength args = if args.getD 5 0 = 1 then 7 else 6 :=
  if_congr (BitVec.toNat_inj (y := 1)) rfl rfl

theorem windowArgs_of_wrong_length {args : List Byte} (h : args.length ≠ windowLength args) : windowArgs args = none :=
  if_pos h

section Commands
variable {i : Instr} {h : HostId} {args : List Byte} (hargs : i.argBytes = args)
include hargs

/-- A command of a fixed length. -/
theorem TakenBy.expecting {n : Nat} {block : State → Reply}
    (htaken : ∀ s, exec i s = .next (s.take h i (Machine.expecting n args block))) (hn : expectedLength i = n)
    (hupholds : UpholdsAll block) (hfits : ∀ s, (block s).Fits s) : TakenBy i h (Machine.expecting n args block) := by
  subst hargs hn
  exact ⟨htaken, hupholds.expecting _ _, fun s => (hfits s).expecting _ _, fun hl s => expecting_of_wrong_length _ s hl⟩

theorem TakenBy.jobCommand {body : JobId → State → Reply}
    (htaken : ∀ s, exec i s = .next (s.take h i (Machine.jobCommand h args body))) (hn : expectedLength i = 1)
    (hupholds : ∀ j, UpholdsAll (body j)) (hfits : ∀ s j, (body j s).Fits s) :
    TakenBy i h (Machine.jobCommand h args body) := by
  subst hargs
  exact ⟨htaken, .jobCommand hupholds _ _, fun s => .jobCommand (hfits s) _ _,
    fun hl s => expecting_of_wrong_length _ s (hn ▸ hl)⟩

theorem TakenBy.groupCommand {n : Nat} {body : GroupId → State → Reply}
    (htaken : ∀ s, exec i s = .next (s.take h i (Machine.groupCommand n args body))) (hn : expectedLength i = n)
    (hupholds : ∀ g, UpholdsAll (body g)) (hfits : ∀ s g, (body g s).Fits s) :
    TakenBy i h (Machine.groupCommand n args body) := by
  subst hargs
  exact ⟨htaken, .groupCommand hupholds _ _, fun s => .groupCommand (hfits s) _ _,
    fun hl s => expecting_of_wrong_length _ s (hn ▸ hl)⟩

theorem TakenBy.seqCommand {body : SeqId → State → Reply}
    (htaken : ∀ s, exec i s = .next (s.take h i (Machine.seqCommand args body))) (hn : expectedLength i = 1)
    (hupholds : ∀ k, UpholdsAll (body k))
    (hfits : ∀ s k, (s.seqs.at k).defined = true → (body k s).Fits s) : TakenBy i h (Machine.seqCommand args body) := by
  subst hargs
  exact ⟨htaken, .seqCommand hupholds _, fun s => .seqCommand (hfits s) _,
    fun hl s => expecting_of_wrong_length _ s (hn ▸ hl)⟩

end Commands

/-- DEFINE_SEQ: arguments of a wrong length are none (R99, R180). -/
theorem takenBy_defineSeq (h : HostId) (args : List Byte) : ∃ block, TakenBy (.defineSeq h args) h block := by
  refine ⟨_, fun _ => rfl, fun s => ?_, fun s => ?_, fun hl s => ?_⟩
  · split
    · exact .refl s
    · exact s.defineSeq_upholds h _
  · split
    · exact .refused
    · exact s.defineSeq_fits h _
  · have hnone : seqArgs args = none := seqArgs_of_wrong_length hl
    rw [hnone]

/-- SET_WINDOW: arguments of a wrong length are none (R152, R180). -/
theorem takenBy_setWindow (h : HostId) (args : List Byte) : ∃ block, TakenBy (.setWindow h args) h block := by
  refine ⟨_, fun _ => rfl, fun s => ?_, fun s => ?_, fun hl s => ?_⟩
  · split
    · exact .refl s
    · split
      · exact s.setWindow_upholds ..
      · exact .refl s
  · split
    · exact .refused
    · exact .ite (fun _ => .answered (Nat.zero_le _)) fun _ => .refused
  · have hnone : windowArgs args = none := windowArgs_of_wrong_length ((windowLength_eq args).symm ▸ hl)
    rw [hnone]

/-- CREATE_JOB goes on with the arguments that its bytes carry (R3). -/
theorem takenBy_createJob (h : HostId) (args : List Byte) : ∃ block, TakenBy (.createJob h args) h block := by
  refine ⟨_, .expecting rfl (fun _ => rfl) rfl (fun s => ?_) fun s => ?_⟩
  · split
    · exact .refl s
    · exact s.createJob_upholds h _
  · split
    · exact .refused
    · exact s.createJob_fits h _

/-- CLEAR_WINDOW goes on with the window that its byte names (R153). -/
theorem takenBy_clearWindow (h : HostId) (args : List Byte) : ∃ block, TakenBy (.clearWindow h args) h block := by
  refine ⟨_, .expecting rfl (fun _ => rfl) rfl (fun s => ?_) fun s => ?_⟩
  · split
    · exact .refl s
    · exact .ite (s.setWindow_upholds ..) (.refl s)
  · split
    · exact .refused
    · exact .answered (Nat.zero_le _)

/-- CLAIM_EXC goes on with the level that its byte names (R127). -/
theorem takenBy_claimExc (h : HostId) (args : List Byte) : ∃ block, TakenBy (.claimExc h args) h block := by
  refine ⟨_, .expecting rfl (fun _ => rfl) rfl (fun s => ?_) fun s => ?_⟩
  · split
    · exact .refl s
    · exact State.claimExc_upholds h _ s
  · split
    · exact .refused
    · exact s.claimExc_fits h _

/-- Every command of a host is taken by a block. -/
theorem exists_takenBy {i : Instr} {h : HostId} (hi : i.caller = some h) : ∃ block, TakenBy i h block := by
  cases i <;> cases hi
  case nop => exact ⟨_, .expecting rfl (fun _ => rfl) rfl (fun s => .refl s) fun _ => .answered (Nat.zero_le _)⟩
  case status =>
    exact ⟨_, .expecting rfl (fun _ => rfl) rfl (fun s => s.drawn_upholds) fun s =>
      .answered (by rw [s.statusImage_length]; decide)⟩
  case defineSeq => exact takenBy_defineSeq h _
  case deleteSeq =>
    exact ⟨_, .seqCommand rfl (fun _ => rfl) rfl (State.deleteSeq_upholds h) fun s k _ => s.deleteSeq_fits h k⟩
  case readSeq => exact ⟨_, .seqCommand rfl (fun _ => rfl) rfl (State.readSeq_upholds h) fun s _ => s.readSeq_fits h⟩
  case createJob => exact takenBy_createJob h _
  case armJob => exact ⟨_, .jobCommand rfl (fun _ => rfl) rfl State.armJob_upholds State.armJob_fits⟩
  case disarmJob => exact ⟨_, .jobCommand rfl (fun _ => rfl) rfl State.disarmJob_upholds State.disarmJob_fits⟩
  case startJob => exact ⟨_, .jobCommand rfl (fun _ => rfl) rfl State.startJob_upholds State.startJob_fits⟩
  case abortJob => exact ⟨_, .jobCommand rfl (fun _ => rfl) rfl State.abortJob_upholds State.abortJob_fits⟩
  case deleteJob => exact ⟨_, .jobCommand rfl (fun _ => rfl) rfl State.deleteJob_upholds State.deleteJob_fits⟩
  case jobStatus => exact ⟨_, .jobCommand rfl (fun _ => rfl) rfl (fun _ s => s.drawn_upholds) State.jobStatus_fits⟩
  case fetchFrame =>
    exact ⟨_, .expecting rfl (fun _ => rfl) rfl (State.fetchFrame_upholds h) fun s => s.fetchFrame_fits h⟩
  case flushFrames =>
    exact ⟨_, .expecting rfl (fun _ => rfl) rfl (State.flushFrames_upholds h) fun s => s.flushFrames_fits h⟩
  case setWindow => exact takenBy_setWindow h _
  case clearWindow => exact takenBy_clearWindow h _
  case acquireHold =>
    exact ⟨_, .groupCommand rfl (fun _ => rfl) rfl (State.acquireHold_upholds h _) fun s g => s.acquireHold_fits h _ g⟩
  case renewHold =>
    exact ⟨_, .groupCommand rfl (fun _ => rfl) rfl (State.renewHold_upholds h) fun s g => s.renewHold_fits h g⟩
  case releaseHold =>
    exact ⟨_, .groupCommand rfl (fun _ => rfl) rfl (State.releaseHold_upholds h) fun s g => s.releaseHold_fits h g⟩
  case claimExc => exact takenBy_claimExc h _
  case requestCal =>
    exact ⟨_, .expecting rfl (fun _ => rfl) rfl (State.requestCal_upholds h) fun s => s.requestCal_fits h⟩
  case setCalInterval =>
    exact ⟨_, .expecting rfl (fun _ => rfl) rfl (State.setCalInterval_upholds h _) fun s => s.setCalInterval_fits h _⟩
  case readEvents =>
    exact ⟨_, .expecting rfl (fun _ => rfl) rfl (State.readEvents_upholds h _) fun s => s.readEvents_fits h _⟩
  case hostReset =>
    exact ⟨_, .expecting rfl (fun _ => rfl) rfl (State.hostReset_upholds h) fun _ => .answered (Nat.zero_le _)⟩

/-! ## The statements about every command -/

/-- Settles O10: a command in hand is answered on its port by the reply of its block, which leaves the ports as they
are; one that is not in hand is not taken. -/
theorem everyCommandIsAnsweredOnItsOwnPort : Obligations.EveryCommandIsAnsweredOnItsOwnPort := by
  refine ⟨fun h i s hs hi ho => ?_, fun h i s hi hn => ?_⟩
  · obtain ⟨block, hb⟩ := exists_takenBy hi
    have hports := (hb.upholds s).ports
    refine ⟨_, (block s).status, (block s).payload, hb.taken s, (hb.fits s).short hs, ?_⟩
    rw [ho.take, State.respond_ports, State.port, hports]
    rfl
  · obtain ⟨block, hb⟩ := exists_takenBy hi
    rw [hb.taken, State.take_of_not block hn]

/-- Settles O11: a reply that is neither OK nor PENDING is a bare status with the state before the command. -/
theorem refusedCommandsHaveNoEffect : Obligations.RefusedCommandsHaveNoEffect := by
  intro h i s t r hi ho ht hr hrefused
  obtain ⟨block, hb⟩ := exists_takenBy hi
  have htaken : t = (block s).state.respond h (block s).status (block s).payload := by
    rw [hb.taken, ho.take] at ht
    cases ht
    rfl
  have hstatus : r.status = (block s).status := by
    rw [htaken, State.respond, State.setPort_port_same] at hr
    cases hr
    rfl
  rw [htaken, hstatus]
  rw [hstatus] at hrefused
  rcases (hb.fits s).effect with hok | hpending | hrefuse
  · simp [hok] at hrefused
  · simp [hpending] at hrefused
  · rw [hrefuse]
    rfl

/-- Settles O12: the block of a command refuses every wrong length. -/
theorem wrongArgumentLengthIsRefused : Obligations.WrongArgumentLengthIsRefused := by
  intro h i s hi ho hl
  obtain ⟨block, hb⟩ := exists_takenBy hi
  rw [hb.taken, ho.take, hb.length hl]
  rfl

end Sys2Proof.Machine

namespace Sys2Proof.Machine

/-! ## Numbers and bytes of an event record (R186, R188) -/

theorem bytesOf_two (n : Nat) : bytesOf 2 n = [byteOf (n / 256), byteOf n] := by
  simp [bytesOf]

theorem bytesOf_three (n : Nat) : bytesOf 3 n = [byteOf (n / 65536), byteOf (n / 256), byteOf n] := by
  simp [bytesOf]

/-- The bytes of a number read after a number `a` that stands before them. -/
theorem foldl_bytesOf (k n a : Nat) :
    (bytesOf k n).foldl (fun acc b => acc * 256 + b.toNat) a = a * 256 ^ k + n % 256 ^ k := by
  induction k generalizing a with
  | zero => simp [bytesOf, Nat.mod_one]
  | succ k ih =>
    have hsplit : n % 256 ^ (k + 1) = n % 256 ^ k + 256 ^ k * (n / 256 ^ k % 256) := Nat.mod_pow_succ
    rw [bytesOf, List.foldl_cons, ih, toNat_byteOf, hsplit]
    ring

theorem bytesOf_length (k n : Nat) : (bytesOf k n).length = k := by
  induction k with
  | zero => rfl
  | succ k ih => rw [bytesOf, List.length_cons, ih]

/-- A number in `k` bytes is read again modulo its width. -/
theorem numberAt_bytesOf (k n : Nat) : numberAt (bytesOf k n) 0 k = n % 256 ^ k := by
  rw [numberAt, List.drop_zero, List.take_of_length_le (bytesOf_length k n).le, foldl_bytesOf, Nat.zero_mul,
    Nat.zero_add]

theorem byteOf_jobCode (j : Option JobId) :
    byteOf (jobCode j) = (j.map fun j => BitVec.ofNat 8 j.val).getD 0xFF := by
  cases j <;> rfl

theorem byteOf_frameCode (f : Option FrameId) :
    byteOf (frameCode f) = (f.map fun f => BitVec.ofNat 8 f.val).getD 0xFF := by
  cases f <;> rfl

/-- One byte packed from two fields. -/
theorem bitsByte_pair (k l m n : Nat) : bitsByte [(k, m), (l, n)] = byteOf (n % 2 ^ l + 2 ^ l * (m % 2 ^ k)) := by
  simp [bitsByte, packBits, Nat.add_comm, Nat.mul_comm]

theorem CalCause.code_lt (c : CalCause) : c.code < 4 := by cases c <;> decide

/-- The five-bit job id of TRIGGER_MISSED, 31 for none (Table 12-10). -/
theorem jobCode_mod (j : Option JobId) : jobCode j % 32 = (j.map Fin.val).getD 31 := by
  cases j with
  | none => rfl
  | some j => exact Nat.mod_eq_of_lt (j.isLt.trans (by decide))

/-- The six-bit frame id of TRIGGER_MISSED, 63 for none (Table 12-10). -/
theorem frameCode_mod (f : Option FrameId) : f.elim 63 Fin.val % 64 = (f.map Fin.val).getD 63 := by
  cases f with
  | none => rfl
  | some f => exact Nat.mod_eq_of_lt (f.isLt.trans (by decide))

/-! ## The rows of Table 12-10 -/

theorem plainImage_eq (code : Nat) (stamp : Time) (detail : List Byte) :
    plainImage code stamp detail = [byteOf code, byteOf (stamp.toNat / 256), byteOf stamp.toNat] ++
      (detail ++ List.replicate (5 - detail.length) 0) := by
  rw [plainImage, bytesOf_two]
  rfl

/-- The detail of a calibration record: its first byte holds the cause below the failure count. -/
theorem calDetail_eq (cause : CalCause) (failures start : Nat) : calDetail cause failures start =
    [byteOf (cause.code + 4 * (failures % 4)), byteOf (start / 65536), byteOf (start / 256), byteOf start] := by
  rw [calDetail, bytesOf_three, bitsByte_pair, Nat.mod_eq_of_lt (show cause.code < 2 ^ 2 from cause.code_lt)]
  rfl

/-- The last byte of DEADLINE_MISSED: the late policy, and the job's state in the high four bits. -/
theorem deadlineByte_eq (state : JobState) (policy : LatePolicy) :
    bitsByte [(4, state.code), (3, 0), (1, policy.code)] = byteOf (policy.code + 16 * state.code) := by
  have hstate := state.code_lt
  have hpolicy := policy.code_lt
  simp only [bitsByte, packBits, List.foldl_cons, List.foldl_nil]
  congr 1
  omega

/-- A record other than LIMIT is sent as its row of Table 12-10: four kinds pack fields into a byte, and the others list
their bytes. -/
theorem Event.image_of_tableRow {e : Event} {code : Byte} {detail : List Byte} (h : e.tableRow = some (code, detail)) :
    e.image = [code, byteOf (e.stamp.toNat / 256), byteOf e.stamp.toNat] ++ detail := by
  obtain ⟨stamp, job, frame, body⟩ := e
  cases body <;> cases h
  case triggerMissed run source moment policy =>
    have hsource : source.code % 8 = source.code := Nat.mod_eq_of_lt source.code_lt
    have hpolicy : policy.code % 2 = policy.code := Nat.mod_eq_of_lt policy.code_lt
    simp only [Event.image, plainImage_eq, bitsByte_pair, bytesOf_two, hsource, hpolicy, Nat.reducePow, jobCode_mod,
      frameCode_mod]
    rfl
  case deadlineMissed run policy state =>
    simp only [Event.image, plainImage_eq, deadlineByte_eq, byteOf_jobCode, byteOf_frameCode]
    rfl
  case holdIntruded group host run =>
    have hgroup : group.val % 2 ^ 2 = group.val := Nat.mod_eq_of_lt group.isLt
    have hhost : hostCode host % 2 ^ 2 = hostCode host := Nat.mod_eq_of_lt (hostCode_lt host)
    simp only [Event.image, plainImage_eq, bitsByte_pair, hgroup, hhost, byteOf_jobCode]
    rfl
  case calDone | calFailed =>
    simp only [Event.image, plainImage_eq, calDetail_eq]
    rfl
  case holdGranted =>
    simp only [Event.image, plainImage_eq, bytesOf_two]
    rfl
  case deviceReset | runComplete | jobDone | frameOverrun | frameReclaimed | jobAborted | holdExpired |
      converterFault | converterRecovered =>
    simp only [Event.image, plainImage_eq, byteOf_jobCode, byteOf_frameCode]
    rfl

/-- The 64 bits of a LIMIT record (Table 12-10). -/
theorem Event.numberAt_limit {e : Event} {w : WindowId} {step : Nat} {channel : Channel} {code : BitVec 12}
    {zone : Zone} {last : LastZone} {run : BitVec 16} {j : JobId} {f : FrameId}
    (hbody : e.body = .limit w step channel code zone last run) (hstep : step < 16) (hjob : e.job = some j)
    (hframe : e.frame = some f) :
    numberAt e.image 0 8 = 2 ^ 63 + 2 ^ 47 * (e.stamp.toNat % 65536) + 2 ^ 42 * j.val + 2 ^ 36 * f.val +
      2 ^ 34 * w.val + 2 ^ 30 * step + 2 ^ 26 * channel.val + 2 ^ 14 * code.toNat + 2 ^ 12 * zone.code +
      2 ^ 10 * last.code + 4 * (run.toNat % 256) := by
  have hzone := zone.code_lt
  have hlast := last.code_lt
  have hcode := code.isLt
  rw [Event.image, hbody, hjob, hframe]
  dsimp only
  rw [numberAt_bytesOf]
  simp only [packBits, jobCode, frameCode, Option.elim_some, List.foldl_cons, List.foldl_nil]
  omega

/-! ## READ_EVENTS (R164, R166) -/

/-- The two bytes before the records: how many are left and how many are read, then the loss counter. -/
theorem eventsImage_header {read : List Event} {left : Nat} (hread : read.length < 8) (hleft : left < 32) (loss : Nat) :
    numberAt (eventsImage read left loss) 0 1 = 8 * left + read.length ∧
    numberAt (eventsImage read left loss) 1 1 = loss % 256 := by
  simp only [eventsImage, numberAt, bitsByte_pair, List.cons_append, List.nil_append, List.drop_succ_cons,
    List.drop_zero, List.take_succ_cons, List.take_zero, List.foldl_cons, List.foldl_nil, toNat_byteOf, Nat.zero_mul,
    Nat.zero_add]
  exact ⟨by omega, trivial⟩

/-- Record `k` of the payload stands in the eight bytes of its place. -/
theorem eventsImage_record {read : List Event} {k : Nat} {e : Event} (hk : read[k]? = some e) (left loss : Nat) :
    ((eventsImage read left loss).drop (2 + 8 * k)).take 8 = e.image := by
  obtain ⟨hlength, rfl⟩ := List.getElem?_eq_some_iff.1 hk
  have hrecords : (eventsImage read left loss).drop 2 = (read.map Event.image).flatten := rfl
  rw [← List.drop_drop, hrecords, drop_flatten_map Event.image_length, List.drop_eq_getElem_cons hlength,
    List.map_cons, List.flatten_cons, List.take_left' (Event.image_length _)]

theorem EventQueue.read_eq (q : EventQueue) (n : Nat) :
    q.read n = ⟨q.queue.drop n, 0, decide (n < q.queue.length)⟩ := by
  have hcalls : (!(q.queue.drop n).isEmpty) = decide (n < q.queue.length) := by
    rw [Bool.eq_iff_iff]
    simp
  rw [EventQueue.read, hcalls]

/-- What READ_EVENTS does, by the number asked and what the queue has to report. -/
theorem exec_readEvents {h : HostId} {b : Byte} {s : State} (ho : s.Offered h (.readEvents h [b])) :
    let q := s.events.get h
    let n := b.toNat
    (n < 1 ∨ 7 < n → exec (.readEvents h [b]) s = .next (s.respond h .badArgument [])) ∧
    (¬ (n < 1 ∨ 7 < n) →
      (q.queue = [] ∧ q.loss = 0 → exec (.readEvents h [b]) s = .next (s.respond h .empty [])) ∧
      (¬ (q.queue = [] ∧ q.loss = 0) →
        exec (.readEvents h [b]) s = .next (State.respond { s with events := s.events.put h (q.read n) } h .ok
          (eventsImage (q.queue.take n) (q.queue.drop n).length q.loss)))) := by
  intro q n
  have harg : argByte [b] 0 = n := rfl
  rw [exec_of_offered (n := 1) rfl ho rfl, harg, State.readEvents]
  refine ⟨fun hout => ?_, fun hin => ⟨fun hnone => ?_, fun hsome => ?_⟩⟩
  · rw [if_pos hout]
    rfl
  · rw [if_neg hin, if_pos hnone]
  · rw [if_neg hin, if_neg hsome]

/-- Settles O55: a record is queued or counted by `EventQueue.push_cases` and sent by its row of Table 12-10 or the 64
bits of LIMIT; READ_EVENTS goes by `exec_readEvents`, with the payload `eventsImage`. -/
theorem eventRecordsAreQueuedAndRead : Obligations.EventRecordsAreQueuedAndRead := by
  refine ⟨fun q e => ?_, fun e => ⟨e.image_length, fun _ _ => Event.image_of_tableRow, fun _ _ _ _ _ _ _ _ _ =>
    Event.numberAt_limit⟩, fun h b s ho => ?_⟩
  · rcases q.push_cases e with ⟨hroom, hpush⟩ | ⟨hfull, hpush⟩
    · exact ⟨fun _ => hpush, fun hfull => by omega⟩
    · exact ⟨fun hroom => by omega, fun _ => hpush⟩
  · intro q n
    obtain ⟨hrefused, htaken⟩ := exec_readEvents ho
    refine ⟨fun hn => hrefused (by omega), fun hone hseven => ?_⟩
    obtain ⟨hempty, hread⟩ := htaken (by omega)
    refine ⟨fun hq hl => hempty ⟨hq, hl⟩, fun hsome hsixteen => ?_⟩
    have htake : (q.queue.take n).length = min n q.queue.length := List.length_take
    have hdrop : (q.queue.drop n).length = q.queue.length - n := List.length_drop
    obtain ⟨hcounts, hloss⟩ := eventsImage_header (read := q.queue.take n) (left := (q.queue.drop n).length)
      (by omega) (by omega) q.loss
    refine ⟨_, ?_, ?_, ?_, hloss, fun k e hk he => ?_⟩
    · rw [← q.read_eq]
      exact hread (by tauto)
    · rw [eventsImage_length, htake]
    · rw [hcounts, htake, hdrop]
    · exact eventsImage_record (by rwa [List.getElem?_take_of_lt hk]) _ _

end Sys2Proof.Machine
